-- ==== Sys2Proof/Word.lean ====
section
/-! DEFINITION. The widths of the manual's values, a table of a fixed number of entries, and a count that saturates. -/

namespace Sys2Proof

/-- One byte of a frame, or an address, a code or an epoch of one byte. -/
abbrev Byte := BitVec 8

/-- Extended values, thresholds and action arguments: 48-bit two's complement (spec/00_scope.md, Conventions). -/
abbrev Ext := BitVec 48

/-- A frame as the bytes that travel between its delimiters: header, body, check (R188). -/
abbrev Frame := List Byte

/-- A table of exactly `n` entries, indexed from 0. -/
structure Tab (α : Type) (n : Nat) where
  data : List α
  len : data.length = n
  deriving DecidableEq, Repr

namespace Tab

variable {α β : Type} {n : Nat}

/-- The table whose every entry is `a`. -/
def replicate (n : Nat) (a : α) : Tab α n := ⟨List.replicate n a, List.length_replicate⟩

/-- Entry `i`. -/
def get (t : Tab α n) (i : Fin n) : α := t.data.get (i.cast t.len.symm)

/-- Entry `i`, or none when the table has no such entry. -/
def get? (t : Tab α n) (i : Nat) : Option α := t.data[i]?

/-- The table with entry `i` replaced; unchanged when it has no such entry. -/
def set (t : Tab α n) (i : Nat) (a : α) : Tab α n := ⟨t.data.set i a, by simp [t.len]⟩

/-- The table with `f` applied to entry `i`. -/
def modify (t : Tab α n) (i : Fin n) (f : α → α) : Tab α n := t.set i (f (t.get i))

/-- The table whose entry `i` is `f i`. -/
def ofFn (f : Fin n → α) : Tab α n := ⟨List.ofFn f, List.length_ofFn⟩

/-- `f` applied to every entry with its index. -/
def mapIdx (f : Fin n → α → β) (t : Tab α n) : Tab β n := ofFn fun i => f i (t.get i)

/-- `f` applied to every entry. -/
def map (f : α → β) (t : Tab α n) : Tab β n := t.mapIdx fun _ => f

end Tab

/-- The index `i` of a table of `n` entries, or none when there is no such entry. -/
def toFin? (n i : Nat) : Option (Fin n) := if h : i < n then some ⟨i, h⟩ else none

/-- `k` more, staying at `max` once there. -/
def satAdd (max n k : Nat) : Nat := min (n + k) max

/-- One more, staying at `max` once there (the manual's saturating counts). -/
def satInc (max n : Nat) : Nat := min (n + 1) max

/-- The greatest value of a 16-bit count. -/
abbrev max16 : Nat := 65535

/-- The greatest value of a 32-bit count. -/
abbrev max32 : Nat := 4294967295

end Sys2Proof
end

