-- ==== Sys2Proof/Config.lean ====
section
/-! DEFINITION. The part's fixed sizes, and the free values: what the spec leaves open and the model does not choose. -/

namespace Sys2Proof.Config

/-- The Intake Queue holds at most this many events (R4). -/
abbrev intakeSize : Nat := 16
/-- The pending-firing list holds at most this many entries (R9). -/
abbrev pendingSize : Nat := 64
/-- The Forward Buffer holds at most this many frames (R182). -/
abbrev forwardSize : Nat := 8
/-- The Inbox and the Response Queue each hold at most this many (R166, R167). -/
abbrev agentSize : Nat := 4
/-- The Report Queue holds at most this many records (R121). -/
abbrev recordSize : Nat := 96
/-- A record other than a FAULT record is taken while fewer than this many are held (R121). -/
abbrev recordRoom : Nat := 92
/-- At most this many Marker frames are outstanding (R128). -/
abbrev windowSize : Nat := 4
/-- A stamp's offset stays here once there (R184). -/
abbrev maxOffset : Nat := 67108863
/-- The greatest travel and high-water of a train (R77, R79). -/
abbrev maxTravel : Int := 140737488355327
/-- The greatest body length of a frame (R179). -/
abbrev maxBody : Nat := 512

/-- FREE VALUE. Which of several possible occurrences comes next when the part is left alone (log 2, log 6). -/
opaque pick : Nat → Nat

/-- FREE VALUE. How many line words a frame of these bytes is on the link, its delimiters among them (log 20). -/
opaque frameWords : List Byte → Nat

/-- FREE VALUE. Whether the Forward Buffer's overrun comes before the other block's work on the same frame (log 6). -/
opaque overrunFirst : Nat → Bool

/-- FREE VALUE. A header byte that a frame is too short to carry, where an answer or a detail needs one (log 6). -/
opaque absentByte : Nat → Byte

/-- FREE VALUE. The cycle ordinal when a step would carry it past its greatest value (log 6). -/
opaque ordinalPast : Nat → BitVec 48

end Sys2Proof.Config
end

