-- ==== Sys2Proof/Machine/Frame.lean ====
section
/-! DEFINITION. Bytes: values most significant byte first, the check, the header, and the slots of a Process frame (R179, R188). -/

namespace Sys2Proof.Machine

/-- A value in `n` bytes, most significant byte first (R188). -/
def beBytes : Nat → Nat → List Byte
  | 0, _ => []
  | n + 1, v => BitVec.ofNat 8 (v / 256 ^ n) :: beBytes n v

/-- The number that bytes give, most significant byte first (R188). -/
def beNat (l : List Byte) : Nat := l.foldl (fun a b => a * 256 + b.toNat) 0

/-- One bit through the check's register, generator 04C11DB7H (R179). -/
def crcBit (c : BitVec 32) (b : Bool) : BitVec 32 :=
  if (c.msb ^^ b) then (c <<< 1) ^^^ 0x04C11DB7#32 else c <<< 1

/-- One byte through the check's register, most significant bit first (R179). -/
def crcByte (c : BitVec 32) (b : Byte) : BitVec 32 :=
  (List.range 8).foldl (fun c i => crcBit c (b.getMsbD i)) c

/-- The check over header and body bytes: the register starts at all ones and is complemented at the end (R179). -/
def crc (l : List Byte) : BitVec 32 := ~~~ (l.foldl crcByte 0xFFFFFFFF#32)

/-- Header and body with their check behind them, as the part sends a frame of its making (R179, R188). -/
def withCheck (l : List Byte) : Frame := l ++ beBytes 4 (crc l).toNat

/-- The fields of Figure 12-5. -/
structure FrameView where
  kind : Byte
  source : Byte
  dest : Byte
  cycle : BitVec 16
  length : Nat
  body : List Byte
  check : BitVec 32
  deriving DecidableEq, Repr

/-- The fields of a received frame, or none when it ends before header and check are complete (R179, R188). -/
def parseFrame (f : Frame) : Option FrameView :=
  match f with
  | k :: s :: d :: c1 :: c0 :: l1 :: l0 :: rest =>
    if rest.length < 4 then none
    else some {
      kind := k, source := s, dest := d
      cycle := BitVec.ofNat 16 (beNat [c1, c0])
      length := beNat [l1, l0]
      body := rest.take (rest.length - 4)
      check := BitVec.ofNat 32 (beNat (rest.drop (rest.length - 4))) }
  | _ => none

/-- The frame's fields when its check test passes: the four failures of R179 are a short frame, a body whose number of bytes
is not the header's, a body length above 512, and a check that differs. -/
def goodFrame (f : Frame) : Option FrameView :=
  match parseFrame f with
  | some v =>
    if v.body.length = v.length ∧ v.length ≤ Config.maxBody ∧ v.check = crc (f.take (7 + v.length)) then some v else none
  | none => none

/-- A frame of the part's making (Figure 12-5). -/
def buildFrame (kind source dest : Byte) (cycle : BitVec 16) (body : List Byte) : Frame :=
  withCheck ([kind, source, dest] ++ beBytes 2 cycle.toNat ++ beBytes 2 body.length ++ body)

/-- Frame kind codes (Figure 12-5). -/
abbrev kindCycleStart : Byte := 0x01#8
abbrev kindCycleClose : Byte := 0x02#8
abbrev kindProcess : Byte := 0x03#8
abbrev kindManagement : Byte := 0x04#8
abbrev kindMarker : Byte := 0x05#8

/-- How many slots a Process frame in the buffer carries (R62, R188). -/
def slotCount (f : Frame) : Nat := (f.length - 11) / 4

/-- Slot `k` of a Process frame, the kth 32-bit word of its body, or none when it carries no such slot (R62). -/
def slotAt (f : Frame) (k : Nat) : Option (BitVec 32) :=
  if k < slotCount f then some (BitVec.ofNat 32 (beNat ((f.drop (7 + 4 * k)).take 4))) else none

/-- The frame with slot `k` holding `w`, its check as it was (R112). -/
def setSlot (f : Frame) (k : Nat) (w : BitVec 32) : Frame :=
  f.take (7 + 4 * k) ++ beBytes 4 w.toNat ++ f.drop (7 + 4 * k + 4)

/-- The frame with its check formed anew over its header and body (R115). -/
def recheck (f : Frame) : Frame := withCheck (f.take (f.length - 4))

end Sys2Proof.Machine
end

