-- ==== Sys2Proof/Syntax.lean ====
section
/-! DEFINITION. The commands the part takes: one constructor for each row of spec/opcode_table.json. -/

namespace Sys2Proof

/-- The two ports of the line link (R177). -/
inductive Port where
  | inbound
  | outbound
  deriving DecidableEq, Repr

/-- What a port receives at the level of line words: an idle word, a frame delimiter, a data word, or a word it cannot decode
(spec/12, section 12.1). -/
inductive LineWord where
  | idle
  | delimiter
  | data
  | bad
  deriving DecidableEq, Repr

/-- How far a TAKE_* command runs the burst it begins: to its end, as the table's row tells the step, or only to the forming of
its pending list, so that commands of other agents can fall between its firings (R17, R18; log 10). -/
inductive BurstMode where
  | whole
  | stepwise
  deriving DecidableEq, Repr

/-- The commands, in the order of spec/opcode_table.json. A frame row carries the bytes received. A request row carries nothing:
the Management Agent takes the request at the head of its Inbox (R167). -/
inductive Instr where
  | deviceReset (address : Byte) (tin : BitVec 4)
  | portSignalDetect (p : Port)
  | portAligned (p : Port) (words : List LineWord)
  | portSignalLoss (p : Port)
  | portBadWordLimit (p : Port) (words : List LineWord)
  | cycleStartFrame (f : Frame)
  | cycleCloseFrame (f : Frame)
  | processFrame (f : Frame)
  | managementFrame (f : Frame)
  | broadcastManagementFrame (f : Frame)
  | ownFrameReturn (f : Frame)
  | otherFrame (f : Frame)
  | forwardRelease
  | insertionStart
  | trackerTimeout
  | reportTimeout
  | sessionLeaseExpiry
  | timerExpiry (k : Fin 4)
  | pulseEnd (j : Fin 8)
  | inputPinChange (k : Fin 4) (high : Bool)
  | inputEdgeAccept (k : Fin 4)
  | takeFrameEvent (m : BurstMode)
  | takeInputEdge (m : BurstMode)
  | takeTimerExpiry (m : BurstMode)
  | takeCycleStart (m : BurstMode)
  | takeCycleClose (m : BurstMode)
  | takeCycleLost (m : BurstMode)
  | takeFireRequest (m : BurstMode)
  | sessionOpen
  | sessionClose
  | statusRead
  | tableWrite
  | tableRead
  | commit
  | commitAbort
  | engineRun
  | engineStop
  | engineReset
  | configClear
  | triggerEnable
  | triggerDisable
  | triggerFire
  | runtimeRead
  | reportAck
  | reportRead
  | reportResume
  | faultRead
  | faultClear
  | counterRead
  | counterReadClear
  | failedCheckFrame (f : Frame)
  deriving DecidableEq, Repr

end Sys2Proof
end

