-- ==== Sys2Proof/Machine/Tables.lean ====
section
/-! DEFINITION. The nine banked tables: their entries, the entries' defaults, and a bank (R137, Figures 9-1 and 9-3 to 9-11).
`{}` of an entry type is the empty entry. -/

namespace Sys2Proof.Machine

/-- Figure 4-1: how the raw slot value is read. -/
inductive ChannelKind where
  | wrapped | absolute | flags
  deriving DecidableEq, Repr

/-- Figure 4-1. -/
structure ChannelEntry where
  valid : Bool := false
  station : Byte := 1#8
  slot : Fin 32 := 0
  kind : ChannelKind := .wrapped
  missLimit : Nat := 3
  deriving DecidableEq, Repr

/-- Figure 3-1: the comparison. -/
inductive WatchTest where
  | above | below | inside | outside | bitsAll | bitsAny | bitsNone
  deriving DecidableEq, Repr

/-- Figure 3-1. -/
structure WatchEntry where
  valid : Bool := false
  channel : Fin 32 := 0
  test : WatchTest := .above
  a : Ext := 0#48
  b : Ext := 0#48
  hysteresis : Nat := 0
  lead : Nat := 0
  deriving DecidableEq, Repr

/-- Figure 1-1: the kind of event a trigger waits for. -/
inductive SourceKind where
  | none | watchRise | watchFall | watchEdge | inputEdge | timerExpiry | trainStart | trainDivision | trainEnd | cycleStart
  | channelStale
  deriving DecidableEq, Repr

/-- Figure 1-1: which level changes of the input match. -/
inductive EdgeSel where
  | rise | fall | either
  deriving DecidableEq, Repr

/-- Figure 1-1: a level that another input must have had. -/
inductive Qualifier where
  | none
  | high (k : Fin 4)
  | low (k : Fin 4)
  deriving DecidableEq, Repr

/-- Figure 1-1. The join list is the members that are present, in the order of their codes (Figure 9-5). -/
structure TriggerEntry where
  valid : Bool := false
  kind : SourceKind := .none
  index : Nat := 0
  edge : EdgeSel := .rise
  qualifier : Qualifier := .none
  divisor : Nat := 1
  phase : Nat := 0
  once : Bool := false
  startsArmed : Bool := false
  join1 : Option (Fin 48) := Option.none
  join2 : Option (Fin 48) := Option.none
  join3 : Option (Fin 48) := Option.none
  join4 : Option (Fin 48) := Option.none
  first : Nat := 0
  count : Nat := 0
  report : Bool := false
  deriving DecidableEq, Repr

/-- The join list (Figure 9-5). -/
def TriggerEntry.joins (e : TriggerEntry) : List (Fin 48) := [e.join1, e.join2, e.join3, e.join4].filterMap id

/-- Figure 2-1: the fifteen action kinds. -/
inductive ActionKind where
  | pulse | level | patch | unpatch | capture | mark | threshold | rebase | trainStart | trainStop | timerStart | timerStop
  | timerCapture | enable | disable
  deriving DecidableEq, Repr

/-- Figure 2-1. The mode is kept as its code, read by kind in the order of Figure 2-2. -/
structure ActionEntry where
  valid : Bool := false
  kind : ActionKind := .mark
  target : Nat := 0
  mode : Nat := 0
  argument : Ext := 0#48
  aux : Nat := 0
  deriving DecidableEq, Repr

/-- Figure 5-1. -/
structure TrainEntry where
  valid : Bool := false
  channel : Fin 32 := 0
  reverse : Bool := false
  interval : Nat := 2
  width : Nat := 1
  count : Nat := 0
  lead : Bool := false
  line : Option (Fin 8) := none
  deriving DecidableEq, Repr

/-- Figure 6-1. -/
structure TimerEntry where
  valid : Bool := false
  period : Nat := 1000
  periodic : Bool := false
  deriving DecidableEq, Repr

/-- Figure 6-3: what an action-owned line does when the engine leaves RUNNING. -/
inductive SafeLevel where
  | inactive | active | hold
  deriving DecidableEq, Repr

/-- Figure 6-3. The owner is none for ACTIONS, and a train otherwise. -/
structure OutputEntry where
  activeLow : Bool := false
  owner : Option (Fin 8) := none
  safe : SafeLevel := .inactive
  deriving DecidableEq, Repr

/-- Figure 6-5. -/
structure InputEntry where
  filter : Nat := 0
  deriving DecidableEq, Repr

/-- Figure 7-1. -/
structure PatchEntry where
  valid : Bool := false
  station : Byte := 1#8
  slot : Fin 32 := 0
  mask : BitVec 32 := 0#32
  hold : Bool := false
  deriving DecidableEq, Repr

/-- Figure 9-1. The disarm set has one bit per fault kind (Figure 9-11). -/
structure Settings where
  markers : Bool := false
  reportTimeout : Nat := 16
  retryLimit : Nat := 3
  perFrame : Nat := 8
  insertionBudget : Nat := 4
  lease : Nat := 256
  disarm : BitVec 6 := 0b000011#6
  deriving DecidableEq, Repr

/-- One complete copy of the nine tables (R137); the Line Table as its output and its input entries. -/
structure Bank where
  channels : Tab ChannelEntry 32
  watches : Tab WatchEntry 64
  triggers : Tab TriggerEntry 48
  actions : Tab ActionEntry 256
  trains : Tab TrainEntry 8
  timers : Tab TimerEntry 4
  outputs : Tab OutputEntry 8
  inputs : Tab InputEntry 4
  patches : Tab PatchEntry 16
  settings : Settings
  deriving DecidableEq, Repr

/-- The empty bank (R137). -/
def Bank.empty : Bank where
  channels := .replicate 32 {}
  watches := .replicate 64 {}
  triggers := .replicate 48 {}
  actions := .replicate 256 {}
  trains := .replicate 8 {}
  timers := .replicate 4 {}
  outputs := .replicate 8 {}
  inputs := .replicate 4 {}
  patches := .replicate 16 {}
  settings := {}

/-- A magnitude test, in contrast to a bit test (chapter 3). -/
def WatchTest.magnitude : WatchTest → Bool
  | .above | .below | .inside | .outside => true
  | .bitsAll | .bitsAny | .bitsNone => false

/-- A test with a window (INSIDE, OUTSIDE). -/
def WatchTest.window : WatchTest → Bool
  | .inside | .outside => true
  | _ => false

/-- The code of an enumerated value: its position in the list of its field's figure (R139). -/
def codeIn {α : Type} [DecidableEq α] (l : List α) (a : α) : Nat := l.findIdx (fun b => decide (b = a))

def ChannelKind.all : List ChannelKind := [.wrapped, .absolute, .flags]
def WatchTest.all : List WatchTest := [.above, .below, .inside, .outside, .bitsAll, .bitsAny, .bitsNone]
def SourceKind.all : List SourceKind :=
  [.none, .watchRise, .watchFall, .watchEdge, .inputEdge, .timerExpiry, .trainStart, .trainDivision, .trainEnd, .cycleStart,
   .channelStale]
def EdgeSel.all : List EdgeSel := [.rise, .fall, .either]
def ActionKind.all : List ActionKind :=
  [.pulse, .level, .patch, .unpatch, .capture, .mark, .threshold, .rebase, .trainStart, .trainStop, .timerStart, .timerStop,
   .timerCapture, .enable, .disable]
def SafeLevel.all : List SafeLevel := [.inactive, .active, .hold]

/-- Figure 9-5, field 05H: 0 NONE, 10H + k HIGH, 20H + k LOW. -/
def Qualifier.code : Qualifier → Nat
  | .none => 0
  | .high k => 0x10 + k
  | .low k => 0x20 + k

def Qualifier.ofCode (v : Nat) : Qualifier :=
  if v < 0x10 then .none else if v < 0x20 then .high (Fin.ofNat 4 v) else .low (Fin.ofNat 4 v)

/-- A flag in one byte (R139, Figure 12-8). -/
def bit (b : Bool) : Nat := if b then 1 else 0

end Sys2Proof.Machine
end

