-- ==== Sys2Proof/Machine/State.lean ====
section
/-! DEFINITION. The part's state as plain data, and the state after a device reset. -/

namespace Sys2Proof.Machine

/-- The moment of an event: cycle number and offset in ns (spec/00_scope.md, Conventions). -/
structure Stamp where
  cycle : BitVec 16
  offset : Nat
  deriving DecidableEq, Repr

/-- R177. -/
inductive PortState where
  | down | aligning | up
  deriving DecidableEq, Repr

/-- A port with what it counts of its line words (R177): consecutive good idle words while ALIGNING, and, while UP, for each
bad word among the last 64 since it entered UP, how many words have come after it, newest first. -/
structure PortRt where
  state : PortState := .down
  idleRun : Nat := 0
  badAges : List Nat := []
  deriving DecidableEq, Repr

/-- The ports, the frame being sent, the station address and the insertion arbiter's counts (R164, R177, R183). `sent` is the
model's own: the frames that have gone out whole, oldest first (log 7). -/
structure Link where
  inbound : PortRt := {}
  outbound : PortRt := {}
  sending : Option Frame := none
  sent : List Frame := []
  address : Byte := 1#8
  budget : Nat := 0
  inserted : Nat := 0
  deriving DecidableEq, Repr

/-- A frame in the Forward Buffer, with the ordinal kept with it (R61, R181). `id` is the model's own (log 7). -/
structure BufFrame where
  id : Nat
  bytes : Frame
  held : Bool
  ordinal : BitVec 48
  deriving DecidableEq, Repr

/-- The Forward Buffer, oldest frame first (R182). -/
structure Forward where
  frames : List BufFrame := []
  nextId : Nat := 0
  deriving DecidableEq, Repr

/-- The segment of a locked cycle. -/
inductive Segment where
  | process | openSeg
  deriving DecidableEq, Repr

/-- The tracker's states, with the segment while LOCKED (R184). -/
inductive TrackerState where
  | unlocked
  | acquiring
  | locked (seg : Segment)
  | missing
  | lost
  deriving DecidableEq, Repr

/-- The current cycle number and period (R184). -/
structure CycleRef where
  number : BitVec 16
  period : Nat
  deriving DecidableEq, Repr

/-- The Cycle Tracker with its stamp clock (R184); `timeoutAt` and `stampFrom` are moments of `State.now`. -/
structure Tracker where
  state : TrackerState := .unlocked
  ref : Option CycleRef := none
  ordinal : BitVec 48 := 0#48
  timeoutAt : Option Nat := none
  stampCycle : BitVec 16 := 0#16
  stampFrom : Nat := 0
  deriving DecidableEq, Repr

/-- The intake events (Figure 1-4). A FRAME event refers to its held frame by `id`. -/
inductive Event where
  | frame (id : Nat) (station : Byte) (st : Stamp)
  | inputEdge (k : Fin 4) (rise : Bool) (levels : BitVec 4) (st : Stamp)
  | timerExpiry (k : Fin 4) (st : Stamp)
  | cycleStart (number : BitVec 16) (st : Stamp)
  | cycleClose (st : Stamp)
  | cycleLost (st : Stamp)
  | fireRequest (members : BitVec 48) (st : Stamp)
  deriving DecidableEq, Repr

/-- An entry of the pending-firing list: the trigger, and the source of the thing it matched (R9). -/
structure Entry where
  trigger : Fin 48
  kind : SourceKind
  index : Nat
  deriving DecidableEq, Repr

/-- The firing in hand: the leader's entry, the member whose list runs if one does, the next action and how many are left, and
the members of the join list not yet examined (R12, R13). -/
structure Firing where
  leader : Entry
  member : Option (Fin 48)
  next : Nat
  left : Nat
  joins : List (Fin 48)
  deriving DecidableEq, Repr

/-- The burst in progress (R8 to R13, R145). -/
structure Burst where
  stamp : Stamp
  frame : Option Nat
  carriesSwap : Bool
  pending : List Entry
  fired : BitVec 48
  firing : Option Firing
  deriving DecidableEq, Repr

/-- Trigger runtime (R1). -/
structure TriggerRt where
  armed : Bool := false
  fires : Nat := 0
  lastFire : Option Stamp := none
  merged : Nat := 0
  deriving DecidableEq, Repr

/-- The states of a channel that has been sampled (Figure 4-2). -/
inductive Freshness where
  | fresh | held | stale
  deriving DecidableEq, Repr

/-- The four value parts of a channel that has been sampled (Figure 4-2). -/
structure Sample where
  extended : Ext
  raw : BitVec 32
  velocity : BitVec 32
  ordinal : BitVec 48
  deriving DecidableEq, Repr

/-- The state of a channel with the parts that are absent in UNSEEN (Figure 4-2). -/
inductive ChannelValue where
  | unseen
  | seen (f : Freshness) (v : Sample)
  deriving DecidableEq, Repr

/-- Channel runtime (R59). -/
structure ChannelRt where
  value : ChannelValue := .unseen
  misses : Nat := 0
  updated : Bool := false
  deriving DecidableEq, Repr

/-- The truth of a watch (R42). -/
inductive Truth where
  | unknown | isFalse | isTrue
  deriving DecidableEq, Repr

/-- Watch runtime: truth and current thresholds (R42). -/
structure WatchRt where
  truth : Truth := .unknown
  a : Ext := 0#48
  b : Ext := 0#48
  deriving DecidableEq, Repr

/-- The states of a train (Figure 5-2). -/
inductive TrainState where
  | idle | running | ending
  deriving DecidableEq, Repr

/-- The parts of a train record that are absent before the first start (Figure 5-2). -/
structure TrainRun where
  origin : Ext
  highWater : Nat
  last : Option Nat
  deriving DecidableEq, Repr

/-- Train runtime (R77). -/
structure TrainRt where
  state : TrainState := .idle
  run : Option TrainRun := none
  emitted : Nat := 0
  on : Bool := false
  crowded : Nat := 0
  deriving DecidableEq, Repr

/-- Timer runtime (R92). -/
structure TimerRt where
  running : Bool := false
  elapsed : Nat := 0
  deriving DecidableEq, Repr

/-- Output line runtime (R96). For a train-owned line the level is its train's (R99): see `State.outputActive`. -/
structure OutputRt where
  active : Bool := false
  pulse : Nat := 0
  deriving DecidableEq, Repr

/-- Input line runtime: accepted level and pin level (true is HIGH), and the moment of the pending change (R103). -/
structure InputRt where
  accepted : Bool := false
  pin : Bool := false
  since : Option Nat := none
  deriving DecidableEq, Repr

/-- Patch runtime (R107). -/
structure PatchRt where
  value : BitVec 32 := 0#32
  armed : Bool := false
  applied : Nat := 0
  overruns : Nat := 0
  deriving DecidableEq, Repr

/-- The body of a record by kind (Figure 8-2), with the trigger of every kind but FAULT (Figure 8-1). -/
inductive RecordBody where
  | fire (trigger : Fin 48) (kind : SourceKind) (index : Nat) (ledBy : Option (Fin 48))
  | capture (trigger : Fin 48) (channel : Fin 32) (value : ChannelValue)
  | mark (trigger : Fin 48) (code : Nat) (argument : Ext)
  | timer (trigger : Fin 48) (k : Fin 4) (elapsed : Nat) (running : Bool)
  | fault (kind : Fin 6) (detail : Nat)
  deriving DecidableEq, Repr

/-- A record of the Report Queue; `sent` is the frame number of a SENT record and none for a PENDING one (R120). -/
structure Record where
  seq : BitVec 32
  stamp : Stamp
  gap : Option Nat
  body : RecordBody
  sent : Option (BitVec 16)
  deriving DecidableEq, Repr

/-- Figure 8-3. -/
inductive ReporterState where
  | polled | active | halted
  deriving DecidableEq, Repr

/-- The report timer (R130): whether it runs, and the value it stands at, which a stop leaves as it is (log 29). -/
structure ReportTimer where
  running : Bool := false
  count : Nat := 0
  deriving DecidableEq, Repr

/-- The Report Unit (R120 to R135). `timeoutDue` is a timeout that has occurred and is not yet taken (log 5). -/
structure Report where
  records : List Record := []
  state : ReporterState := .polled
  timer : ReportTimer := {}
  timeoutDue : Bool := false
  resend : Nat := 0
  epoch : Byte := 0#8
  nextSeq : BitVec 32 := 0#32
  nextFrame : BitVec 16 := 0#16
  gap : Nat := 0
  deriving DecidableEq, Repr

/-- The last commit outcome when there is one (R137). -/
inductive CommitOutcome where
  | swapped | aborted | cancelled
  deriving DecidableEq, Repr

/-- The Configuration Banks (R137). -/
structure Banks where
  active : Bank := .empty
  staging : Bank := .empty
  commitPending : Bool := false
  outcome : Option CommitOutcome := none
  generation : Nat := 0
  deriving DecidableEq, Repr

/-- A request as it arrived: its source station and the body of its frame (Figures 11-1a, 12-6). -/
structure Request where
  source : Byte
  bytes : List Byte
  deriving DecidableEq, Repr

/-- A response (R164, R165, Figure 12-6). -/
structure Response where
  dest : Byte
  tag : BitVec 16
  seq : Byte
  kind : Byte
  status : Byte
  body : List Byte
  deriving DecidableEq, Repr

/-- A held session; `expiryDue` is a lease expiry that has occurred and is not yet taken (R168, R171, log 5). -/
structure Session where
  station : Byte
  tag : BitVec 16
  lease : Nat := 0
  expiryDue : Bool := false
  deriving DecidableEq, Repr

/-- The duplicate cache when it holds something (R172). -/
structure Cached where
  seq : Byte
  response : Response
  deriving DecidableEq, Repr

/-- The Management Agent (R166 to R172). `hold` is the request in execution that waits on the Trigger Unit (R146, R167), and
`stopClaim` a broadcast ENGINE_STOP whose claim waits (R173). Neither waits but on a burst in progress. -/
structure Agent where
  session : Option Session := none
  inbox : List Request := []
  responses : List Response := []
  cache : Option Cached := none
  hold : Option Request := none
  stopClaim : Bool := false
  deriving DecidableEq, Repr

/-- R153. -/
inductive EngineState where
  | stopped | running | disarmed
  deriving DecidableEq, Repr

/-- One place of the Fault Set (R158). -/
structure FaultPlace where
  flag : Bool := false
  raises : Nat := 0
  deriving DecidableEq, Repr

/-- The whole part. `now` counts nanoseconds since the end of the last device reset (log 2). `pending` is the queue of commands
that wait, and `freeIdx` says which free value is read next (log 6): both are the model's own. -/
structure State where
  link : Link := {}
  forward : Forward := {}
  tracker : Tracker := {}
  now : Nat := 0
  intake : List Event := []
  burst : Option Burst := none
  triggers : Tab TriggerRt 48 := .replicate 48 {}
  channels : Tab ChannelRt 32 := .replicate 32 {}
  watches : Tab WatchRt 64 := .replicate 64 {}
  trains : Tab TrainRt 8 := .replicate 8 {}
  timers : Tab TimerRt 4 := .replicate 4 {}
  outputs : Tab OutputRt 8 := .replicate 8 {}
  inputs : Tab InputRt 4 := .replicate 4 {}
  patches : Tab PatchRt 16 := .replicate 16 {}
  report : Report := {}
  banks : Banks := {}
  agent : Agent := {}
  engine : EngineState := .stopped
  faults : Tab FaultPlace 6 := .replicate 6 {}
  counters : Tab Nat 19 := .replicate 19 0
  pending : List Instr := []
  freeIdx : Nat := 0
  deriving DecidableEq, Repr

/-- No command stops the part: the six fault kinds of chapter 10 are state (R158), so this type has no constructor. -/
inductive Fault where
  deriving DecidableEq, Repr

/-- Why a step refuses. -/
inductive Refusal where
  /-- Raised by `exec` for a command that has no meaning yet; safe: nothing is claimed of it. No command of this model is
  refused. -/
  | notModelled (mnemonic : String)
  deriving DecidableEq, Repr

/-- The part after a device reset with the address pins at 1 and the input pins LOW (R1, R4, R42, R59, R77, R92, R96, R105, R107,
R125, R126, R135, R137, R153, R158, R162, R164, R166 to R168, R177, R182, R184; log 3, log 4). -/
def State.reset : State := {}

section Setters

variable (s : State)

/-- The state with `link` replaced. -/
def State.withLink (x : Link) : State := { s with link := x }
/-- The state with `forward` replaced. -/
def State.withForward (x : Forward) : State := { s with forward := x }
/-- The state with `tracker` replaced. -/
def State.withTracker (x : Tracker) : State := { s with tracker := x }
/-- The state with `now` replaced. -/
def State.withNow (x : Nat) : State := { s with now := x }
/-- The state with `intake` replaced. -/
def State.withIntake (x : List Event) : State := { s with intake := x }
/-- The state with `burst` replaced. -/
def State.withBurst (x : Option Burst) : State := { s with burst := x }
/-- The state with `triggers` replaced. -/
def State.withTriggers (x : Tab TriggerRt 48) : State := { s with triggers := x }
/-- The state with `channels` replaced. -/
def State.withChannels (x : Tab ChannelRt 32) : State := { s with channels := x }
/-- The state with `watches` replaced. -/
def State.withWatches (x : Tab WatchRt 64) : State := { s with watches := x }
/-- The state with `trains` replaced. -/
def State.withTrains (x : Tab TrainRt 8) : State := { s with trains := x }
/-- The state with `timers` replaced. -/
def State.withTimers (x : Tab TimerRt 4) : State := { s with timers := x }
/-- The state with `outputs` replaced. -/
def State.withOutputs (x : Tab OutputRt 8) : State := { s with outputs := x }
/-- The state with `inputs` replaced. -/
def State.withInputs (x : Tab InputRt 4) : State := { s with inputs := x }
/-- The state with `patches` replaced. -/
def State.withPatches (x : Tab PatchRt 16) : State := { s with patches := x }
/-- The state with `report` replaced. -/
def State.withReport (x : Report) : State := { s with report := x }
/-- The state with `banks` replaced. -/
def State.withBanks (x : Banks) : State := { s with banks := x }
/-- The state with `agent` replaced. -/
def State.withAgent (x : Agent) : State := { s with agent := x }
/-- The state with `engine` replaced. -/
def State.withEngine (x : EngineState) : State := { s with engine := x }
/-- The state with `faults` replaced. -/
def State.withFaults (x : Tab FaultPlace 6) : State := { s with faults := x }
/-- The state with `counters` replaced. -/
def State.withCounters (x : Tab Nat 19) : State := { s with counters := x }
/-- The state with `pending` replaced. -/
def State.withPending (x : List Instr) : State := { s with pending := x }
/-- The state with `freeIdx` replaced. -/
def State.withFreeIdx (x : Nat) : State := { s with freeIdx := x }

end Setters

end Sys2Proof.Machine
end

