-- ==== Sys2Proof/Machine/Flags.lean ====
section
/-! DEFINITION. The counters, the flags of the Fault Set and the outputs that are computed: FAULTN, line levels and pins. -/

namespace Sys2Proof.Machine

/-- The counters of Figure 10-5, in code order. -/
inductive Counter where
  | framesIn | badCheck | lateFrame | duplicateSample | forwardDiscard | intakeDrop | inboxOverflow | broadcastIgnored
  | cycleSlip | periodChange | impliedClose | closeMismatch | extraClose | reportLost | patchOverrun | patchMiss
  | actionRefused | mergedFiring | crowdedDivision
  deriving DecidableEq, Repr

/-- The code of a counter (Figure 10-5). -/
def Counter.code : Counter → Fin 19
  | .framesIn => 0 | .badCheck => 1 | .lateFrame => 2 | .duplicateSample => 3 | .forwardDiscard => 4 | .intakeDrop => 5
  | .inboxOverflow => 6 | .broadcastIgnored => 7 | .cycleSlip => 8 | .periodChange => 9 | .impliedClose => 10
  | .closeMismatch => 11 | .extraClose => 12 | .reportLost => 13 | .patchOverrun => 14 | .patchMiss => 15
  | .actionRefused => 16 | .mergedFiring => 17 | .crowdedDivision => 18

/-- The value of a counter. -/
def State.counter (s : State) (c : Counter) : Nat := s.counters.get c.code

/-- A counter rises by `n`, staying at its greatest value (R162). -/
def State.bumpBy (s : State) (c : Counter) (n : Nat) : State := s.withCounters (s.counters.modify c.code (satAdd max32 · n))

/-- A counter rises by one (R162). -/
def State.bump (s : State) (c : Counter) : State := s.bumpBy c 1

/-- The codes of the fault kinds (Figure 10-4). -/
abbrev linkDown : Fin 6 := 0
abbrev cycleLost : Fin 6 := 1
abbrev eventOverrun : Fin 6 := 2
abbrev forwardOverrun : Fin 6 := 3
abbrev reportLoss : Fin 6 := 4
abbrev reportHalt : Fin 6 := 5

/-- Whether a fault kind is set (R158). -/
def State.flag (s : State) (k : Fin 6) : Bool := (s.faults.get k).flag

/-- A fault kind's flag is set and its raise count rises (R158). -/
def State.setFault (s : State) (k : Fin 6) : State :=
  s.withFaults (s.faults.modify k fun p => { flag := true, raises := satInc max16 p.raises })

/-- A fault kind's flag is cleared; its raise count is kept (R160). -/
def State.clearFault (s : State) (k : Fin 6) : State := s.withFaults (s.faults.modify k fun p => { p with flag := false })

/-- Whether a kind is in the disarm set of the ACTIVE Settings record (R159, Figure 9-11). -/
def State.inDisarmSet (s : State) (k : Fin 6) : Bool := s.banks.active.settings.disarm.getLsbD k

/-- FAULTN: true is high (R158). -/
def State.faultn (s : State) : Bool := (List.finRange 6).all fun k => !s.flag k

/-- A train that is measuring travel. -/
def TrainRt.live (t : TrainRt) : Bool := decide (t.state ≠ .idle)

/-- Whether output line `j` is ACTIVE: its own record's level, or its train's ON span (R81, R96, R99). -/
def State.outputActive (s : State) (j : Fin 8) : Bool :=
  match (s.banks.active.outputs.get j).owner with
  | some k => (s.trains.get k).live && (s.trains.get k).on
  | none => (s.outputs.get j).active

/-- The pin of output line `j`, true is high (R96). -/
def State.outputPin (s : State) (j : Fin 8) : Bool := s.outputActive j ^^ (s.banks.active.outputs.get j).activeLow

/-- The accepted levels of the four inputs, input `k` at bit `k` (R104). -/
def State.inputLevels (s : State) : BitVec 4 :=
  (List.finRange 4).foldl (fun v k => if (s.inputs.get k).accepted then v ||| BitVec.twoPow 4 k else v) 0#4

end Sys2Proof.Machine
end

