-- ==== Sys2Proof/Machine/Records.lean ====
section
/-! DEFINITION. Records and faults: admission and loss (R121 to R124), raising a fault kind (R158), and a record's bytes. -/

namespace Sys2Proof.Machine

/-- The stamp of a thing produced now (R4, R184). -/
def State.stampNow (s : State) : Stamp :=
  ⟨s.tracker.stampCycle, min (s.now - s.tracker.stampFrom) Config.maxOffset⟩

/-- The code of a record's kind (Figure 12-7). -/
def RecordBody.code : RecordBody → Nat
  | .fire .. => 0
  | .capture .. => 1
  | .mark .. => 2
  | .timer .. => 3
  | .fault .. => 4

/-- Whether the queue admits a record of this body (R121). -/
def Report.hasRoom (r : Report) (b : RecordBody) : Bool :=
  match b with
  | .fault .. => decide (r.records.length < Config.recordSize)
  | _ => decide (r.records.length < Config.recordRoom)

/-- An admitted record at the tail, with the next sequence number and the gap that is owed (R121, R123). -/
def Report.append (r : Report) (st : Stamp) (b : RecordBody) : Report :=
  { r with
    records := r.records ++ [{ seq := r.nextSeq, stamp := st, gap := if r.gap = 0 then none else some r.gap, body := b
                               sent := none }]
    nextSeq := r.nextSeq + 1#32
    gap := 0 }

/-- The engine leaves RUNNING for DISARMED when the raised kind is in the disarm set (R159); the cleanup follows in `settle`. -/
def State.disarmFor (s : State) (k : Fin 6) : State :=
  if s.engine = .running ∧ s.inDisarmSet k then s.withEngine .disarmed else s

/-- A refused record is counted in REPORT_LOST and in the pending gap (R122). -/
def State.countLoss (s : State) : State :=
  (s.bump .reportLost).withReport { s.report with gap := satInc max16 s.report.gap }

/-- The first loss raises REPORT_LOSS, whose own record may be refused and lost in turn, raising nothing more (R122). -/
def State.offerLoss (s : State) (detail : Nat) : State :=
  let s1 := s.setFault reportLoss
  let body := RecordBody.fault reportLoss detail
  let s2 := if s1.report.hasRoom body then s1.withReport (s1.report.append s1.stampNow body) else s1.countLoss
  s2.disarmFor reportLoss

/-- What becomes of a refused record (R122). -/
def State.lose (s : State) (b : RecordBody) : State :=
  let s1 := s.countLoss
  if s1.flag reportLoss then s1 else s1.offerLoss b.code

/-- A record is offered to the Report Queue, and admitted or lost (R121, R122). -/
def State.offerRecord (s : State) (st : Stamp) (b : RecordBody) : State :=
  if s.report.hasRoom b then s.withReport (s.report.append st b) else s.lose b

/-- A fault kind other than REPORT_LOSS is raised: the flag, the raise count, the record when the flag was clear, and the engine
state (R158, R159). The cleanup of leaving RUNNING is not part of it. -/
def State.raiseRaw (s : State) (k : Fin 6) (detail : Nat) : State :=
  let s1 := s.setFault k
  let s2 := if s.flag k then s1 else s1.offerRecord s1.stampNow (.fault k detail)
  s2.disarmFor k

/-- A stamp in 6 bytes (R188). -/
def Stamp.bytes (st : Stamp) : List Byte := beBytes 2 st.cycle.toNat ++ beBytes 4 st.offset

/-- One byte. -/
def byteOf (v : Nat) : List Byte := beBytes 1 v

/-- A flag in one byte. -/
def flagByte (b : Bool) : List Byte := byteOf (bit b)

/-- The code of a channel state (Figure 12-8). -/
def ChannelValue.code : ChannelValue → Nat
  | .unseen => 0
  | .seen .fresh _ => 1
  | .seen .held _ => 2
  | .seen .stale _ => 3

/-- The presence bits of a record (Figure 12-7). -/
def Record.presence (r : Record) : Nat :=
  bit r.gap.isSome + match r.body with
    | .fire _ _ _ ledBy => 2 * bit ledBy.isSome
    | .capture _ _ (.seen _ _) => 4
    | _ => 0

/-- The part of a record that depends on its kind, its trigger first (Figure 12-7). -/
def RecordBody.bytes : RecordBody → List Byte
  | .fire t kind index ledBy =>
      byteOf t ++ byteOf (codeIn SourceKind.all kind) ++ byteOf index ++
        (match ledBy with | some l => byteOf l | none => [])
  | .capture t c v =>
      byteOf t ++ byteOf c ++ byteOf v.code ++
        (match v with | .seen _ m => beBytes 6 m.extended.toNat ++ beBytes 4 m.velocity.toNat | .unseen => [])
  | .mark t code argument => byteOf t ++ beBytes 2 code ++ beBytes 6 argument.toNat
  | .timer t k elapsed running => byteOf t ++ byteOf k ++ beBytes 3 elapsed ++ flagByte running
  | .fault k detail => byteOf k ++ beBytes 2 detail

/-- A record as it travels (Figure 12-7). -/
def Record.bytes (r : Record) : List Byte :=
  beBytes 4 r.seq.toNat ++ byteOf r.body.code ++ byteOf r.presence ++ r.stamp.bytes ++
    (match r.gap with | some g => beBytes 2 g | none => []) ++ r.body.bytes

end Sys2Proof.Machine
end

