-- ==== Sys2Proof/Machine/Control.lean ====
section
/-! DEFINITION. Leaving RUNNING and raising a fault (R154, R158, R159). -/

namespace Sys2Proof.Machine

/-- A train that goes IDLE keeps its run; its division is OFF (R77, R88). -/
def TrainRt.halt (t : TrainRt) : TrainRt := { t with state := .idle, on := false }

/-- A timer that is stopped keeps its elapsed count (R94, R95). -/
def TimerRt.halt (t : TimerRt) : TimerRt := { t with running := false }

/-- Figure 6-4: an action-owned line on leaving RUNNING. -/
def OutputRt.safe (e : OutputEntry) (o : OutputRt) : OutputRt :=
  match e.owner, e.safe with
  | some _, _ => o
  | none, .inactive => { active := false, pulse := 0 }
  | none, .active => { active := true, pulse := 0 }
  | none, .hold => o

/-- The firings that remain are discarded without counting, and the one in hand does not complete (R18). -/
def Burst.interrupt (b : Burst) : Burst := { b with pending := [], firing := none }

/-- Figure 10-2, for an engine state that has just left RUNNING (R154). -/
def State.cleanup (s : State) : State :=
  let s1 := s.withBurst (s.burst.map Burst.interrupt)
  let s2 := s1.withTrains (s1.trains.map TrainRt.halt)
  let s3 := s2.withTimers (s2.timers.map TimerRt.halt)
  let s4 := s3.withOutputs (s3.outputs.mapIdx fun j o => OutputRt.safe (s3.banks.active.outputs.get j) o)
  let s5 := s4.withPatches (s4.patches.map fun p => { p with armed := false })
  if s5.engine = .disarmed then s5.withTriggers (s5.triggers.map fun t => { t with armed := false }) else s5

/-- `after` came of `before` by one whole action or one raise: when the engine left RUNNING in it, the cleanup follows (R27,
R154). -/
def settle (before after : State) : State :=
  if before.engine = .running ∧ after.engine ≠ .running then after.cleanup else after

/-- A fault kind is raised outside an action: the cleanup is applied at once (R159). -/
def State.raiseFault (s : State) (k : Fin 6) (detail : Nat) : State := settle s (s.raiseRaw k detail)

/-- The engine is stopped (R156). -/
def State.stopEngine (s : State) : State :=
  match s.engine with
  | .running => settle s (s.withEngine .stopped)
  | .disarmed => s.withEngine .stopped
  | .stopped => s

end Sys2Proof.Machine
end

