-- ==== Sys2Proof/Machine/Ops.lean ====
section
/-! DEFINITION. The operations that several blocks share: the Intake Queue (R4 to R6), the Forward Buffer (R181, R182), and the
reading of a free value (log 6). -/

namespace Sys2Proof.Machine

/-- The state after a free value has been read. -/
def State.spend (s : State) : State := s.withFreeIdx (s.freeIdx + 1)

/-- A number below `n` (0 when `n` is 0) that a free value picks. -/
def State.pickBelow (s : State) (n : Nat) : Nat := Config.pick s.freeIdx % n

/-- The code of an event's kind (Figure 10-4, EVENT_OVERRUN). -/
def Event.code : Event → Nat
  | .frame .. => 0
  | .inputEdge .. => 1
  | .timerExpiry .. => 2
  | .cycleStart .. => 3
  | .cycleClose .. => 4
  | .cycleLost .. => 5
  | .fireRequest .. => 6

/-- The ordinary events (chapter 1.4). -/
def Event.ordinary : Event → Bool
  | .frame .. | .inputEdge .. | .timerExpiry .. | .fireRequest .. => true
  | .cycleStart .. | .cycleClose .. | .cycleLost .. => false

/-- The stamp an event carries (R4). -/
def Event.stamp : Event → Stamp
  | .frame _ _ st | .inputEdge _ _ _ st | .timerExpiry _ st | .cycleStart _ st | .cycleClose st | .cycleLost st
  | .fireRequest _ st => st

/-- The frame a FRAME event refers to. -/
def Event.frameId : Event → Option Nat
  | .frame id _ _ => some id
  | _ => none

/-- The frame with this number becomes releasable in place (R181, R182). -/
def Forward.release (w : Forward) (id : Nat) : Forward :=
  { w with frames := w.frames.map fun f => if f.id = id then { f with held := false } else f }

/-- The frame of an event that is not taken is released unedited (R5, R181). -/
def State.releaseEvent (s : State) (e : Event) : State :=
  match e.frameId with
  | some id => s.withForward (s.forward.release id)
  | none => s

/-- An event is dropped: INTAKE_DROP, EVENT_OVERRUN, its frame released unedited (R5). -/
def State.dropEvent (s : State) (e : Event) : State :=
  ((s.bump .intakeDrop).raiseFault eventOverrun e.code).releaseEvent e

/-- An event at the tail of the Intake Queue. -/
def State.appendEvent (s : State) (e : Event) : State := s.withIntake (s.intake ++ [e])

/-- An ordinary event arrives (R4, R5). -/
def State.offerOrdinary (s : State) (e : Event) : State :=
  if s.intake.length < Config.intakeSize then s.appendEvent e else s.dropEvent e

/-- The newest ordinary event of a queue, and the queue without it; none when no event is ordinary (R6). -/
def takeNewest : List Event → Option (Event × List Event)
  | [] => none
  | e :: l =>
    match takeNewest l with
    | some (d, l') => some (d, e :: l')
    | none => if e.ordinary then some (e, l) else none

/-- A cycle event arrives (R4, R6). -/
def State.offerCycle (s : State) (e : Event) : State :=
  if s.intake.length < Config.intakeSize then s.appendEvent e
  else
    match takeNewest s.intake with
    | some (d, l) => ((s.withIntake l).dropEvent d).appendEvent e
    | none => s.dropEvent e

/-- The source byte of a frame, or a free value where the frame is too short to carry one (log 6). -/
def State.sourceByte (s : State) (f : Frame) : Byte := f.getD 1 (Config.absentByte s.freeIdx)

/-- A frame meets a full Forward Buffer: it is discarded (R182). -/
def State.overrun (s : State) (f : Frame) : State :=
  (((s.bump .forwardDiscard).raiseFault forwardOverrun (s.sourceByte f).toNat)).spend

/-- Whether the Forward Buffer has room (R182). -/
def State.bufferRoom (s : State) : Bool := decide (s.forward.frames.length < Config.forwardSize)

/-- A frame at the tail of the Forward Buffer. -/
def State.appendFrame (s : State) (f : Frame) (held : Bool) : State :=
  s.withForward { frames := s.forward.frames ++ [⟨s.forward.nextId, f, held, s.tracker.ordinal⟩]
                  nextId := s.forward.nextId + 1 }

/-- A frame enters the Forward Buffer releasable, or is discarded (R182). -/
def State.enter (s : State) (f : Frame) : State := if s.bufferRoom then s.appendFrame f false else s.overrun f

/-- A frame enters the Forward Buffer and is given to another block, in an order that is free when the buffer is full (R180,
R182, log 6). -/
def State.enterAnd (s : State) (f : Frame) (given : State → State) : State :=
  if s.bufferRoom then given (s.appendFrame f false)
  else if Config.overrunFirst s.freeIdx then given (s.overrun f) else (given s).overrun f

/-- The state with `f` applied for each element of a list, from the left. -/
def overList {α : Type} (f : State → α → State) (s : State) (l : List α) : State := l.foldl f s

end Sys2Proof.Machine
end

