-- ==== Sys2Proof/Machine/Channels.lean ====
section
/-! DEFINITION. The Channel Unit (chapter 4). -/

namespace Sys2Proof.Machine

/-- The signed number held within the 32-bit range (R68). -/
def clamp32 (v : Int) : BitVec 32 := BitVec.ofInt 32 (max (-2147483648) (min 2147483647 v))

/-- The delta of an update from a sampled state: the shorter way round for WRAPPED, exact for ABSOLUTE (R65, R66). -/
def channelDelta (k : ChannelKind) (old new : BitVec 32) : Int :=
  match k with
  | .wrapped => (new - old).toInt
  | .absolute => new.toInt - old.toInt
  | .flags => 0

/-- The number of cycles since the last update, at least 1 (R68). -/
def cyclesSince (old new : BitVec 48) : Int := max 1 ((new.toNat : Int) - (old.toNat : Int))

/-- The velocity of an update: the delta by the cycles, truncated toward zero and held within 32 bits (R68). -/
def velocityOf (delta : Int) (old new : BitVec 48) : BitVec 32 := clamp32 (Int.tdiv delta (cyclesSince old new))

/-- The value parts after an update with raw value `raw` at ordinal `ord` (R65 to R70, Figure 4-3). -/
def nextSample (k : ChannelKind) (v : ChannelValue) (raw : BitVec 32) (ord : BitVec 48) : Sample :=
  let first : Sample := ⟨raw.signExtend 48, raw, 0#32, ord⟩
  match k, v with
  | .flags, _ => first
  | _, .unseen => first
  | _, .seen f m =>
    let delta := channelDelta k m.raw raw
    ⟨m.extended + BitVec.ofInt 48 delta, raw, if f = .stale then 0#32 else velocityOf delta m.ordinal ord, ord⟩

/-- An update of a channel (R64). -/
def ChannelRt.update (k : ChannelKind) (raw : BitVec 32) (ord : BitVec 48) (c : ChannelRt) : ChannelRt :=
  { value := .seen .fresh (nextSample k c.value raw ord), misses := 0, updated := true }

/-- The sample of a channel that is FRESH or HELD (R36, R37). -/
def ChannelRt.current (c : ChannelRt) : Option Sample :=
  match c.value with
  | .seen .fresh m | .seen .held m => some m
  | .seen .stale _ | .unseen => none

/-- A channel becomes STALE with its values kept (R72). -/
def ChannelRt.goStale (c : ChannelRt) : ChannelRt :=
  match c.value with
  | .seen _ m => { c with value := .seen .stale m, updated := false }
  | .unseen => c

/-- Whether a channel has been updated from this cycle already (R63). -/
def ChannelRt.sampledAt (c : ChannelRt) (ord : BitVec 48) : Bool :=
  match c.value with
  | .seen _ m => c.updated && m.ordinal == ord
  | .unseen => false

/-- Miss accounting for one channel (R71, Figure 4-4). -/
def ChannelRt.close (limit : Nat) (c : ChannelRt) : ChannelRt :=
  match c.value with
  | .unseen | .seen .stale _ => { c with updated := false }
  | .seen _ m =>
    if c.updated then { c with value := .seen .fresh m, updated := false }
    else if c.misses + 1 = limit then ChannelRt.goStale { c with misses := c.misses + 1 }
    else { c with value := .seen .held m, misses := c.misses + 1 }

/-- The loss of cycles for one channel (R73). -/
def ChannelRt.lose (c : ChannelRt) : ChannelRt :=
  match c.value with
  | .seen .fresh _ | .seen .held _ => { c.goStale with updated := false }
  | .seen .stale _ | .unseen => { c with updated := false }

/-- Whether a channel is STALE. -/
def ChannelRt.isStale (c : ChannelRt) : Bool :=
  match c.value with
  | .seen .stale _ => true
  | _ => false

/-- The valid channels sourced from a station (R61). -/
def State.follows (s : State) (station : Byte) (i : Fin 32) : Bool :=
  let e := s.banks.active.channels.get i
  e.valid && e.station == station

/-- Whether a FRAME event is a duplicate sample (R63). -/
def State.isDuplicate (s : State) (station : Byte) (ord : BitVec 48) : Bool :=
  (List.finRange 32).any fun i => s.follows station i && (s.channels.get i).sampledAt ord

/-- Whether channel `i` takes a sample from a frame that is no duplicate (R61, R62). -/
def State.takesSample (s : State) (f : Frame) (station : Byte) (i : Fin 32) : Bool :=
  s.follows station i && decide ((s.banks.active.channels.get i).slot.val < slotCount f)

/-- The channels updated from a frame (R62, R64). -/
def State.updateChannels (s : State) (f : Frame) (station : Byte) (ord : BitVec 48) : State :=
  s.withChannels (s.channels.mapIdx fun i c =>
    let e := s.banks.active.channels.get i
    match slotAt f e.slot with
    | some raw => if s.follows station i then c.update e.kind raw ord else c
    | none => c)

/-- A channel is moved to a new extended value; the rest of it stays (R74). -/
def ChannelRt.rebase (v : Ext) (c : ChannelRt) : ChannelRt :=
  match c.value with
  | .seen f m => { c with value := .seen f { m with extended := v } }
  | .unseen => c

end Sys2Proof.Machine
end

