-- ==== Sys2Proof/Machine/Watches.lean ====
section
/-! DEFINITION. The Watch Unit (chapter 3). -/

namespace Sys2Proof.Machine

/-- The start of a watch record (R42). -/
def WatchEntry.start (e : WatchEntry) : WatchRt := if e.valid then { truth := .unknown, a := e.a, b := e.b } else {}

/-- The projected value, formed exactly (R44). -/
def projected (m : Sample) (lead : Nat) : Int := m.extended.toInt + m.velocity.toInt * lead

/-- Whether a test's condition for becoming TRUE holds (R45, R46: the second column of Figure 3-3). -/
def becomesTrue (e : WatchEntry) (w : WatchRt) (m : Sample) : Bool :=
  let v := projected m e.lead
  let mask := w.a.truncate 32
  match e.test with
  | .above => decide (w.a.toInt ≤ v)
  | .below => decide (v ≤ w.a.toInt)
  | .inside => decide (w.a.toInt ≤ v ∧ v ≤ w.b.toInt)
  | .outside => decide (v < w.a.toInt ∨ w.b.toInt < v)
  | .bitsAll => m.raw &&& mask == mask
  | .bitsAny => m.raw &&& mask != 0#32
  | .bitsNone => m.raw &&& mask == 0#32

/-- Whether a test's condition for becoming FALSE holds (R46: the third column of Figure 3-3; R47). -/
def becomesFalse (e : WatchEntry) (w : WatchRt) (m : Sample) : Bool :=
  let v := projected m e.lead
  let h : Int := e.hysteresis
  match e.test with
  | .above => decide (v < w.a.toInt - h)
  | .below => decide (w.a.toInt + h < v)
  | .inside => decide (v < w.a.toInt - h ∨ w.b.toInt + h < v)
  | .outside => decide (w.a.toInt + h ≤ v ∧ v ≤ w.b.toInt - h)
  | .bitsAll | .bitsAny | .bitsNone => !becomesTrue e w m

/-- A priming (R48). -/
def WatchRt.prime (e : WatchEntry) (m : Sample) (w : WatchRt) : WatchRt :=
  { w with truth := if becomesTrue e w m then .isTrue else .isFalse }

/-- An evaluation: priming out of UNKNOWN, the two columns of Figure 3-3 otherwise (R46 to R48). -/
def WatchRt.evaluate (e : WatchEntry) (m : Sample) (w : WatchRt) : WatchRt :=
  match w.truth with
  | .unknown => w.prime e m
  | .isFalse => if becomesTrue e w m then { w with truth := .isTrue } else w
  | .isTrue => if becomesFalse e w m then { w with truth := .isFalse } else w

/-- The edge between a watch's truth before and after: some true is a rise, some false a fall (R49). -/
def edgeOf (before after : Truth) : Option Bool :=
  match before, after with
  | .isFalse, .isTrue => some true
  | .isTrue, .isFalse => some false
  | _, _ => none

/-- A watch that loses its truth (R51). -/
def WatchRt.forget (w : WatchRt) : WatchRt := { w with truth := .unknown }

/-- The valid watches of the channels in `on` are evaluated (R50). -/
def State.evaluateWatches (s : State) (on : Fin 32 → Bool) : State :=
  s.withWatches (s.watches.mapIdx fun i w =>
    let e := s.banks.active.watches.get i
    match (s.channels.get e.channel).current with
    | some m => if e.valid && on e.channel then w.evaluate e m else w
    | none => w)

/-- Every watch of the channels in `on` goes UNKNOWN (R51, R72). -/
def State.forgetWatches (s : State) (on : Fin 32 → Bool) : State :=
  s.withWatches (s.watches.mapIdx fun i w => if on (s.banks.active.watches.get i).channel then w.forget else w)

/-- The watches of a rebased channel whose truth is known are primed (R55). -/
def State.primeWatches (s : State) (c : Fin 32) : State :=
  s.withWatches (s.watches.mapIdx fun i w =>
    let e := s.banks.active.watches.get i
    match (s.channels.get c).current with
    | some m => if e.valid && e.channel == c && w.truth != .unknown then w.prime e m else w
    | none => w)

/-- A watch with a new current threshold A or B. -/
def WatchRt.load (atB : Bool) (v : Ext) (w : WatchRt) : WatchRt := if atB then { w with b := v } else { w with a := v }

/-- Whether a load leaves a window as R35 demands. The difference B − A is formed exactly: the model's choice, log 28. -/
def WatchRt.windowOk (e : WatchEntry) (w : WatchRt) : Bool :=
  match e.test with
  | .inside => decide (w.a.toInt ≤ w.b.toInt)
  | .outside => decide (w.a.toInt ≤ w.b.toInt ∧ 2 * (e.hysteresis : Int) ≤ w.b.toInt - w.a.toInt)
  | _ => true

end Sys2Proof.Machine
end

