-- ==== Sys2Proof/Machine/Trains.lean ====
section
/-! DEFINITION. The Train Unit (chapter 5) and the things a trigger can match (Figure 1-2). -/

namespace Sys2Proof.Machine

/-- A thing that a trigger can match (Figure 1-2). -/
inductive Thing where
  | watch (i : Fin 64) (rise : Bool)
  | input (k : Fin 4) (rise : Bool) (levels : BitVec 4)
  | timer (k : Fin 4)
  | trainStart (k : Fin 8)
  | trainDivision (k : Fin 8)
  | trainEnd (k : Fin 8)
  | cycleStart (number : BitVec 16)
  | channelStale (c : Fin 32)
  deriving DecidableEq, Repr

/-- Things in the order produced, each with how many stand together. -/
abbrev Products := List (Thing × Nat)

/-- The travel of a train (R79). -/
def travel (e : TrainEntry) (origin value : Ext) : Int :=
  let d := (value - origin).toInt
  if e.reverse then min (-d) Config.maxTravel else d

/-- Whether the travel lies in the ON span of the last boundary (R81). -/
def inSpan (e : TrainEntry) (last : Option Nat) (t : Int) : Bool :=
  match last with
  | some j => decide (((j * e.interval : Nat) : Int) ≤ t ∧ t ≤ ((j * e.interval : Nat) : Int) + e.width - 1)
  | none => false

/-- How many divisions an evaluation emits (R80, R82). -/
def divisionsDue (e : TrainEntry) (last : Option Nat) (highWater emitted : Nat) : Nat :=
  let start := match last with | some j => j + 1 | none => 1
  let reached := highWater / e.interval + 1 - start
  if e.count = 0 then reached else min reached (e.count - emitted)

/-- The result of evaluating one train: its record and how many divisions it emitted. -/
structure TrainEval where
  rt : TrainRt
  divisions : Nat
  deriving DecidableEq, Repr

/-- The evaluation of a RUNNING or ENDING train against its channel's value (R79 to R82, R85, R86). -/
def TrainRt.evaluate (e : TrainEntry) (value : Ext) (t : TrainRt) : TrainEval :=
  match t.state, t.run with
  | .idle, _ => ⟨t, 0⟩
  | _, none => ⟨t, 0⟩
  | .ending, some r =>
    let on := inSpan e r.last (travel e r.origin value)
    ⟨{ t with on := on, state := if on then .ending else .idle }, 0⟩
  | .running, some r =>
    let v := travel e r.origin value
    let high := max r.highWater v.toNat
    let n := divisionsDue e r.last high t.emitted
    let last := if n = 0 then r.last else some ((match r.last with | some j => j + 1 | none => 1) + n - 1)
    let emitted := satAdd max32 t.emitted n
    let on := inSpan e last v
    let state : TrainState :=
      if e.count ≠ 0 ∧ e.count ≤ emitted then (if on then .ending else .idle) else .running
    ⟨{ state := state, run := some ⟨r.origin, high, last⟩, emitted := emitted, on := on
       crowded := if 1 < n then satInc max16 t.crowded else t.crowded }, n⟩

/-- A start or restart (R83, R84). -/
def TrainRt.start (e : TrainEntry) (value : Ext) (t : TrainRt) : TrainRt :=
  { state := if e.lead ∧ e.count = 1 then .ending else .running
    run := some ⟨value, 0, if e.lead then some 0 else none⟩
    emitted := if e.lead then 1 else 0
    on := e.lead
    crowded := t.crowded }

/-- A stop (R85): the record after it. -/
def TrainRt.stop (t : TrainRt) : TrainRt :=
  match t.state with
  | .running => if t.on then { t with state := .ending } else t.halt
  | .ending | .idle => t

/-- Whether a stop ends the train at once (R38, R85). -/
def TrainRt.stopEnds (t : TrainRt) : Bool := decide (t.state = .running) && !t.on

/-- The origin of a running train moves with its channel (R89). -/
def TrainRt.shift (d : Ext) (t : TrainRt) : TrainRt :=
  if t.live then { t with run := t.run.map fun r => { r with origin := r.origin + d } } else t

/-- The evaluation that train `k` gets when the channels in `on` have been updated (R86). -/
def State.trainEval (s : State) (on : Fin 32 → Bool) (k : Fin 8) : TrainEval :=
  let e := s.banks.active.trains.get k
  let t := s.trains.get k
  match (s.channels.get e.channel).current with
  | some m => if e.valid && on e.channel && t.live then t.evaluate e m.extended else ⟨t, 0⟩
  | none => ⟨t, 0⟩

/-- The products of evaluating one train: its divisions, then its end (R86). -/
def evalProducts (k : Fin 8) (before : TrainRt) (e : TrainEval) : Products :=
  (if e.divisions = 0 then [] else [(.trainDivision k, e.divisions)]) ++
    (if before.live && !e.rt.live then [(.trainEnd k, 1)] else [])

/-- The trains running on the updated channels are evaluated (R86). -/
def State.evaluateTrains (s : State) (on : Fin 32 → Bool) : State × Products :=
  let evals := (List.finRange 8).map fun k => (k, s.trainEval on k)
  let s1 := s.withTrains (.ofFn fun k => (s.trainEval on k).rt)
  let s2 := s1.bumpBy .crowdedDivision (evals.countP fun p => decide (1 < p.2.divisions))
  (s2, evals.flatMap fun p => evalProducts p.1 (s.trains.get p.1) p.2)

/-- The trains of the channels in `on` go IDLE (R87). -/
def State.haltTrains (s : State) (on : Fin 32 → Bool) : State :=
  s.withTrains (s.trains.mapIdx fun k t => if on (s.banks.active.trains.get k).channel then t.halt else t)

/-- The running trains of a rebased channel are shifted (R74, R89). -/
def State.shiftTrains (s : State) (c : Fin 32) (d : Ext) : State :=
  s.withTrains (s.trains.mapIdx fun k t => if (s.banks.active.trains.get k).channel = c then t.shift d else t)

/-- What channel `c` becoming STALE produces: itself, then the ends of its running trains (R72). -/
def State.staleProducts (s : State) (c : Fin 32) : Products :=
  (.channelStale c, 1) :: ((List.finRange 8).filter fun k =>
    (s.banks.active.trains.get k).channel == c && (s.trains.get k).live).map fun k => (.trainEnd k, 1)

/-- The channels take new records; those that become STALE lose their watches' truth and end their trains (R71 to R73). -/
def State.settleChannels (s : State) (f : ChannelEntry → ChannelRt → ChannelRt) : State × Products :=
  let after := s.channels.mapIdx fun i c => if (s.banks.active.channels.get i).valid then f (s.banks.active.channels.get i) c else c
  let gone : Fin 32 → Bool := fun i => (after.get i).isStale && !(s.channels.get i).isStale
  let products := ((List.finRange 32).filter gone).flatMap s.staleProducts
  (((s.withChannels after).forgetWatches gone).haltTrains gone, products)

end Sys2Proof.Machine
end

