-- ==== Sys2Proof/Machine/Lines.lean ====
section
/-! DEFINITION. The Timer Unit and the Line Unit (chapter 6). -/

namespace Sys2Proof.Machine

/-- Whether the count of timer `k` reaches its period at the next microsecond (R93). -/
def State.timerDue (s : State) (k : Fin 4) : Bool :=
  let e := s.banks.active.timers.get k
  let t := s.timers.get k
  e.valid && t.running && decide (e.period ≤ t.elapsed + 1)

/-- The change of state at an expiry (R93). -/
def TimerRt.expire (e : TimerEntry) : TimerRt :=
  if e.periodic then { running := true, elapsed := 0 } else { running := false, elapsed := e.period }

/-- The count reaches the period: the timer's change, then the event (R93). -/
def State.expireTimer (s : State) (k : Fin 4) : State :=
  let s1 := s.withTimers (s.timers.set k (TimerRt.expire (s.banks.active.timers.get k)))
  s1.offerOrdinary (.timerExpiry k s1.stampNow)

/-- Whether the pulse of line `j` ends at the next microsecond (R97). -/
def State.pulseDue (s : State) (j : Fin 8) : Bool := decide ((s.outputs.get j).pulse = 1)

/-- A pulse ends (R97). -/
def OutputRt.endPulse : OutputRt := { active := false, pulse := 0 }

/-- A PULSE is taken (R97). -/
def OutputRt.startPulse (width : Nat) : OutputRt := { active := true, pulse := width }

/-- A LEVEL is taken, its mode by code: ACTIVE, INACTIVE, TOGGLE (R98). -/
def OutputRt.setLevel (mode : Nat) (o : OutputRt) : OutputRt :=
  { active := if mode = 0 then true else if mode = 1 then false else !o.active, pulse := 0 }

/-- The pin of an input takes a level (R103). -/
def InputRt.pinTo (now : Nat) (high : Bool) (r : InputRt) : InputRt :=
  if r.pin = high then r
  else { r with pin := high, since := if high = r.accepted then none else some now }

/-- Whether the pending change of input `k` has held for its filter time (R103). -/
def State.inputDue (s : State) (k : Fin 4) : Bool :=
  match (s.inputs.get k).since with
  | some t => decide (t + 1000 * (s.banks.active.inputs.get k).filter ≤ s.now)
  | none => false

/-- Whether a trigger of the ACTIVE bank waits for input `k` (R7). -/
def State.inputWatched (s : State) (k : Fin 4) : Bool :=
  (List.finRange 48).any fun t =>
    let e := s.banks.active.triggers.get t
    e.valid && e.kind == .inputEdge && e.index == k.val

/-- A change of input `k` is accepted (R104). -/
def State.acceptInput (s : State) (k : Fin 4) : State :=
  let r := s.inputs.get k
  let s1 := s.withInputs (s.inputs.set k { r with accepted := r.pin, since := none })
  if s1.inputWatched k then s1.offerOrdinary (.inputEdge k r.pin s1.inputLevels s1.stampNow) else s1

/-- Element `i` of a list put in front (the list unchanged when there is none). -/
def bringFront {α : Type} (i : Nat) (l : List α) : List α :=
  match l[i]? with
  | some a => a :: l.eraseIdx i
  | none => l

/-- A list in an order that free values pick, with the state after they have been read; the first argument is the list's
length (log 6). -/
def shuffle {α : Type} : Nat → State → List α → State × List α
  | 0, s, l => (s, l)
  | n + 1, s, l =>
    match bringFront (s.pickBelow l.length) l with
    | [] => (s, [])
    | a :: rest =>
      let r := shuffle n s.spend rest
      (r.1, a :: r.2)

/-- The changes whose filter time has passed are accepted, in either order (R104, R105). -/
def State.acceptDue (s : State) : State :=
  let due := (List.finRange 4).filter fun k => s.inputDue k
  if due.length ≤ 1 then overList State.acceptInput s due
  else
    let r := shuffle due.length s due
    overList State.acceptInput r.1 r.2

end Sys2Proof.Machine
end

