-- ==== Sys2Proof/Machine/Patches.lean ====
section
/-! DEFINITION. The Patch Unit (chapter 7). -/

namespace Sys2Proof.Machine

/-- A PATCH is taken (R110). -/
def PatchRt.arm (hold : Bool) (v : BitVec 32) (p : PatchRt) : PatchRt :=
  { p with value := v, armed := true, overruns := if p.armed && !hold then satInc max16 p.overruns else p.overruns }

/-- An entry has edited a frame (R113). -/
def PatchRt.edited (hold : Bool) (p : PatchRt) : PatchRt :=
  { p with applied := satInc max32 p.applied, armed := hold }

/-- The slot's bits outside the mask with the value's bits inside it (R112). -/
def underMask (mask old value : BitVec 32) : BitVec 32 := (old &&& ~~~mask) ||| (value &&& mask)

/-- One entry is worked through for a frame of its target station; the frame carries whether it has been edited (R112 to
R114). -/
def patchOne (station : Byte) (sf : State × Frame × Bool) (i : Fin 16) : State × Frame × Bool :=
  let s := sf.1
  let f := sf.2.1
  let e := s.banks.active.patches.get i
  let p := s.patches.get i
  if e.valid && p.armed && e.station == station then
    match slotAt f e.slot with
    | some w => (s.withPatches (s.patches.set i (p.edited e.hold)), setSlot f e.slot (underMask e.mask w p.value), true)
    | none => (s.bump .patchMiss, f, sf.2.2)
  else sf

/-- The entries worked through in ascending index (R112). -/
def patchFrame (s : State) (station : Byte) (f : Frame) : State × Frame × Bool :=
  (List.finRange 16).foldl (patchOne station) (s, f, false)

/-- The frame with this number, if the buffer has it. -/
def Forward.find (w : Forward) (id : Nat) : Option BufFrame := w.frames.find? fun f => f.id == id

/-- The frame with this number takes new bytes and becomes releasable. -/
def Forward.finish (w : Forward) (id : Nat) (f : Frame) : Forward :=
  { w with frames := w.frames.map fun b => if b.id = id then { b with bytes := f, held := false } else b }

/-- The end of a FRAME burst: armed entries edit the frame, the check is settled, the frame is releasable (R112, R115). -/
def State.patchAndRelease (s : State) (id : Nat) : State :=
  match s.forward.find id with
  | some b =>
    let r := patchFrame s (s.sourceByte b.bytes) b.bytes
    r.1.withForward (r.1.forward.finish id (if r.2.2 then recheck r.2.1 else r.2.1))
  | none => s

end Sys2Proof.Machine
end

