-- ==== Sys2Proof/Machine/Operands.lean ====
section
/-! DEFINITION. Request fields and bodies: the header of a request, the fields of the nine tables with their codings and ranges
(Figures 9-2 to 9-11), and the reading and writing of entries (R139 to R142, R188). -/

namespace Sys2Proof.Machine

/-- The statuses (Figure 11-2). -/
abbrev stOk : Byte := 0x00#8
abbrev stBusy : Byte := 0x01#8
abbrev stNoSession : Byte := 0x02#8
abbrev stOwned : Byte := 0x03#8
abbrev stMalformed : Byte := 0x04#8
abbrev stRange : Byte := 0x05#8
abbrev stInvalid : Byte := 0x06#8
abbrev stWrongState : Byte := 0x07#8
abbrev stFaulted : Byte := 0x08#8
abbrev stStaleAck : Byte := 0x09#8
abbrev stQueueFull : Byte := 0x0A#8
abbrev stCausePresent : Byte := 0x0B#8

/-- The session tag, 0 where the request is too short to hold one (Figure 12-6). -/
def Request.tag (q : Request) : BitVec 16 := BitVec.ofNat 16 (beNat (q.bytes.take 2))

/-- The kind code, where the request is long enough to hold one. -/
def Request.kind? (q : Request) : Option Byte := q.bytes[3]?

/-- The request body (Figure 12-6). -/
def Request.body (q : Request) : List Byte := q.bytes.drop 6

/-- The header faults of R167, step 1. -/
def Request.headerFault (q : Request) : Bool :=
  decide (q.bytes.length < 6) || q.tag == 0#16 || q.source == 255#8
    || decide (beNat ((q.bytes.drop 4).take 2) ≠ q.body.length)

/-- A code of Figure 11-1. -/
def knownKind (k : Byte) : Bool := decide (1 ≤ k.toNat ∧ k.toNat ≤ 0x15)

/-- One field of a table entry: its code, the width of its value in bytes, and the values it takes (Figures 9-3 to 9-11). -/
structure Field where
  code : Nat
  bytes : Nat
  ok : Nat → Bool

/-- A field with how it is put into an entry and read from it. -/
structure FieldOf (E : Type) extends Field where
  put : Nat → E → E
  get : E → Nat

/-- A range. -/
def within (lo hi v : Nat) : Bool := decide (lo ≤ v ∧ v ≤ hi)

/-- Figure 9-3. -/
def channelFields : List (FieldOf ChannelEntry) := [
  ⟨⟨1, 1, within 0 1⟩, fun v e => { e with valid := v == 1 }, fun e => bit e.valid⟩,
  ⟨⟨2, 1, within 1 254⟩, fun v e => { e with station := BitVec.ofNat 8 v }, fun e => e.station.toNat⟩,
  ⟨⟨3, 1, within 0 31⟩, fun v e => { e with slot := Fin.ofNat 32 v }, fun e => e.slot⟩,
  ⟨⟨4, 1, within 0 2⟩, fun v e => { e with kind := ChannelKind.all.getD v .wrapped }, fun e => codeIn ChannelKind.all e.kind⟩,
  ⟨⟨5, 1, within 1 15⟩, fun v e => { e with missLimit := v }, fun e => e.missLimit⟩]

/-- Figure 9-4. -/
def watchFields : List (FieldOf WatchEntry) := [
  ⟨⟨1, 1, within 0 1⟩, fun v e => { e with valid := v == 1 }, fun e => bit e.valid⟩,
  ⟨⟨2, 1, within 0 31⟩, fun v e => { e with channel := Fin.ofNat 32 v }, fun e => e.channel⟩,
  ⟨⟨3, 1, within 0 6⟩, fun v e => { e with test := WatchTest.all.getD v .above }, fun e => codeIn WatchTest.all e.test⟩,
  ⟨⟨4, 6, fun _ => true⟩, fun v e => { e with a := BitVec.ofNat 48 v }, fun e => e.a.toNat⟩,
  ⟨⟨5, 6, fun _ => true⟩, fun v e => { e with b := BitVec.ofNat 48 v }, fun e => e.b.toNat⟩,
  ⟨⟨6, 2, within 0 65535⟩, fun v e => { e with hysteresis := v }, fun e => e.hysteresis⟩,
  ⟨⟨7, 1, within 0 4⟩, fun v e => { e with lead := v }, fun e => e.lead⟩]

/-- A join member's value: 0–47, or 0FFH for none (Figure 9-5). -/
def joinOk (v : Nat) : Bool := decide (v < 48) || v == 255
def joinOf (v : Nat) : Option (Fin 48) := toFin? 48 v
def joinCode (j : Option (Fin 48)) : Nat := match j with | some i => i | none => 255

/-- A qualifier's value (Figure 9-5). -/
def qualifierOk (v : Nat) : Bool := v == 0 || within 0x10 0x13 v || within 0x20 0x23 v

/-- Figure 9-5. -/
def triggerFields : List (FieldOf TriggerEntry) := [
  ⟨⟨0x01, 1, within 0 1⟩, fun v e => { e with valid := v == 1 }, fun e => bit e.valid⟩,
  ⟨⟨0x02, 1, within 0 10⟩, fun v e => { e with kind := SourceKind.all.getD v .none }, fun e => codeIn SourceKind.all e.kind⟩,
  ⟨⟨0x03, 1, within 0 63⟩, fun v e => { e with index := v }, fun e => e.index⟩,
  ⟨⟨0x04, 1, within 0 2⟩, fun v e => { e with edge := EdgeSel.all.getD v .rise }, fun e => codeIn EdgeSel.all e.edge⟩,
  ⟨⟨0x05, 1, qualifierOk⟩, fun v e => { e with qualifier := .ofCode v }, fun e => e.qualifier.code⟩,
  ⟨⟨0x06, 2, fun v => [1, 2, 4, 8, 16, 32, 64, 128, 256].contains v⟩, fun v e => { e with divisor := v }, fun e => e.divisor⟩,
  ⟨⟨0x07, 1, within 0 255⟩, fun v e => { e with phase := v }, fun e => e.phase⟩,
  ⟨⟨0x08, 1, within 0 1⟩, fun v e => { e with once := v == 0 }, fun e => bit (!e.once)⟩,
  ⟨⟨0x09, 1, within 0 1⟩, fun v e => { e with startsArmed := v == 0 }, fun e => bit (!e.startsArmed)⟩,
  ⟨⟨0x0A, 1, joinOk⟩, fun v e => { e with join1 := joinOf v }, fun e => joinCode e.join1⟩,
  ⟨⟨0x0B, 1, joinOk⟩, fun v e => { e with join2 := joinOf v }, fun e => joinCode e.join2⟩,
  ⟨⟨0x0C, 1, joinOk⟩, fun v e => { e with join3 := joinOf v }, fun e => joinCode e.join3⟩,
  ⟨⟨0x0D, 1, joinOk⟩, fun v e => { e with join4 := joinOf v }, fun e => joinCode e.join4⟩,
  ⟨⟨0x0E, 1, within 0 255⟩, fun v e => { e with first := v }, fun e => e.first⟩,
  ⟨⟨0x0F, 1, within 0 16⟩, fun v e => { e with count := v }, fun e => e.count⟩,
  ⟨⟨0x10, 1, within 0 1⟩, fun v e => { e with report := v == 1 }, fun e => bit e.report⟩]

/-- Figure 9-6. -/
def actionFields : List (FieldOf ActionEntry) := [
  ⟨⟨1, 1, within 0 1⟩, fun v e => { e with valid := v == 1 }, fun e => bit e.valid⟩,
  ⟨⟨2, 1, within 0 14⟩, fun v e => { e with kind := ActionKind.all.getD v .mark }, fun e => codeIn ActionKind.all e.kind⟩,
  ⟨⟨3, 1, within 0 255⟩, fun v e => { e with target := v }, fun e => e.target⟩,
  ⟨⟨4, 1, within 0 5⟩, fun v e => { e with mode := v }, fun e => e.mode⟩,
  ⟨⟨5, 6, fun _ => true⟩, fun v e => { e with argument := BitVec.ofNat 48 v }, fun e => e.argument.toNat⟩,
  ⟨⟨6, 2, within 0 65535⟩, fun v e => { e with aux := v }, fun e => e.aux⟩]

/-- An optional index below 8, by a code for none. -/
def lineOf (v : Nat) : Option (Fin 8) := toFin? 8 v

/-- Figure 9-7. -/
def trainFields : List (FieldOf TrainEntry) := [
  ⟨⟨1, 1, within 0 1⟩, fun v e => { e with valid := v == 1 }, fun e => bit e.valid⟩,
  ⟨⟨2, 1, within 0 31⟩, fun v e => { e with channel := Fin.ofNat 32 v }, fun e => e.channel⟩,
  ⟨⟨3, 1, within 0 1⟩, fun v e => { e with reverse := v == 1 }, fun e => bit e.reverse⟩,
  ⟨⟨4, 3, within 1 16777215⟩, fun v e => { e with interval := v }, fun e => e.interval⟩,
  ⟨⟨5, 3, within 1 16777214⟩, fun v e => { e with width := v }, fun e => e.width⟩,
  ⟨⟨6, 2, within 0 65535⟩, fun v e => { e with count := v }, fun e => e.count⟩,
  ⟨⟨7, 1, within 0 1⟩, fun v e => { e with lead := v == 1 }, fun e => bit e.lead⟩,
  ⟨⟨8, 1, fun v => decide (v < 8) || v == 255⟩, fun v e => { e with line := lineOf v },
    fun e => match e.line with | some j => j | none => 255⟩]

/-- Figure 9-8. -/
def timerFields : List (FieldOf TimerEntry) := [
  ⟨⟨1, 1, within 0 1⟩, fun v e => { e with valid := v == 1 }, fun e => bit e.valid⟩,
  ⟨⟨2, 3, within 1 16777215⟩, fun v e => { e with period := v }, fun e => e.period⟩,
  ⟨⟨3, 1, within 0 1⟩, fun v e => { e with periodic := v == 1 }, fun e => bit e.periodic⟩]

/-- The code of an owner: 0 ACTIONS, 1 + k TRAIN k (Figure 9-9). -/
def ownerCode (o : Option (Fin 8)) : Nat := match o with | some k => k.val + 1 | none => 0
def ownerOf (v : Nat) : Option (Fin 8) := if v = 0 then none else lineOf (v - 1)

/-- Figure 9-9, entries 0 to 7. -/
def outputFields : List (FieldOf OutputEntry) := [
  ⟨⟨1, 1, within 0 1⟩, fun v e => { e with activeLow := v == 1 }, fun e => bit e.activeLow⟩,
  ⟨⟨2, 1, within 0 8⟩, fun v e => { e with owner := ownerOf v }, fun e => ownerCode e.owner⟩,
  ⟨⟨3, 1, within 0 2⟩, fun v e => { e with safe := SafeLevel.all.getD v .inactive }, fun e => codeIn SafeLevel.all e.safe⟩]

/-- Figure 9-9, entries 8 to 11. -/
def inputFields : List (FieldOf InputEntry) := [
  ⟨⟨4, 2, within 0 1023⟩, fun v e => { e with filter := v }, fun e => e.filter⟩]

/-- Figure 9-10. -/
def patchFields : List (FieldOf PatchEntry) := [
  ⟨⟨1, 1, within 0 1⟩, fun v e => { e with valid := v == 1 }, fun e => bit e.valid⟩,
  ⟨⟨2, 1, within 1 254⟩, fun v e => { e with station := BitVec.ofNat 8 v }, fun e => e.station.toNat⟩,
  ⟨⟨3, 1, within 0 31⟩, fun v e => { e with slot := Fin.ofNat 32 v }, fun e => e.slot⟩,
  ⟨⟨4, 4, fun _ => true⟩, fun v e => { e with mask := BitVec.ofNat 32 v }, fun e => e.mask.toNat⟩,
  ⟨⟨5, 1, within 0 1⟩, fun v e => { e with hold := v == 1 }, fun e => bit e.hold⟩]

/-- Figure 9-11. -/
def settingsFields : List (FieldOf Settings) := [
  ⟨⟨1, 1, within 0 1⟩, fun v e => { e with markers := v == 1 }, fun e => bit e.markers⟩,
  ⟨⟨2, 1, within 1 255⟩, fun v e => { e with reportTimeout := v }, fun e => e.reportTimeout⟩,
  ⟨⟨3, 1, within 0 15⟩, fun v e => { e with retryLimit := v }, fun e => e.retryLimit⟩,
  ⟨⟨4, 1, within 1 8⟩, fun v e => { e with perFrame := v }, fun e => e.perFrame⟩,
  ⟨⟨5, 1, within 1 8⟩, fun v e => { e with insertionBudget := v }, fun e => e.insertionBudget⟩,
  ⟨⟨6, 2, within 8 4096⟩, fun v e => { e with lease := v }, fun e => e.lease⟩,
  ⟨⟨7, 1, within 0 0x3F⟩, fun v e => { e with disarm := BitVec.ofNat 6 v }, fun e => e.disarm.toNat⟩]

/-- The tables (Figure 9-2). -/
inductive TableId where
  | channel | watch | trigger | action | train | timer | line | patch | settings
  deriving DecidableEq, Repr

def TableId.all : List TableId := [.channel, .watch, .trigger, .action, .train, .timer, .line, .patch, .settings]

/-- A table code (Figure 9-2). -/
def TableId.ofCode (c : Byte) : Option TableId := if c = 0#8 then none else TableId.all[c.toNat - 1]?

/-- How many entries a table has (Figure 9-2). -/
def TableId.size : TableId → Nat
  | .channel => 32 | .watch => 64 | .trigger => 48 | .action => 256 | .train => 8 | .timer => 4 | .line => 12 | .patch => 16
  | .settings => 1

/-- The fields of a table that apply to the entry at index `i` (R140). An index above 11 of the Line Table, an entry that the
table does not have, gets the input fields, so that an output code there is MALFORMED and a filter code RANGE: the model's choice,
log 30. -/
def TableId.fields (t : TableId) (i : Nat) : List Field :=
  match t with
  | .channel => channelFields.map (·.toField)
  | .watch => watchFields.map (·.toField)
  | .trigger => triggerFields.map (·.toField)
  | .action => actionFields.map (·.toField)
  | .train => trainFields.map (·.toField)
  | .timer => timerFields.map (·.toField)
  | .line => if i < 8 then outputFields.map (·.toField) else inputFields.map (·.toField)
  | .patch => patchFields.map (·.toField)
  | .settings => settingsFields.map (·.toField)

/-- Field codes with their values, as an entry of a request or a response gives them. -/
abbrev Pairs := List (Nat × Nat)

/-- The next `n` bytes as a value, and what follows. -/
def takeValue (n : Nat) (l : List Byte) : Option (Nat × List Byte) :=
  if n ≤ l.length then some (beNat (l.take n), l.drop n) else none

/-- `n` pairs, each a known code and its value (R188). -/
def readPairs (fs : List Field) : Nat → List Byte → Option (Pairs × List Byte)
  | 0, l => some ([], l)
  | _ + 1, [] => none
  | n + 1, c :: l =>
    match fs.find? fun f => f.code == c.toNat with
    | none => none
    | some f =>
      match takeValue f.bytes l with
      | none => none
      | some (v, l') =>
        match readPairs fs n l' with
        | none => none
        | some (ps, rest) => some ((f.code, v) :: ps, rest)

/-- `n` entries from index `i` on, to the end of the body (R140). -/
def readEntries (t : TableId) : Nat → Nat → List Byte → Option (List Pairs)
  | 0, _, [] => some []
  | 0, _, _ :: _ => none
  | _ + 1, _, [] => none
  | n + 1, i, c :: l =>
    match readPairs (t.fields i) c.toNat l with
    | none => none
    | some (ps, rest) =>
      match readEntries t n (i + 1) rest with
      | none => none
      | some es => some (ps :: es)

/-- No field code stands twice in an entry (R140). -/
def distinctCodes (ps : Pairs) : Bool := decide ((ps.map Prod.fst).Nodup)

/-- Every value lies in its field's coding and range (R140). -/
def pairsInRange (fs : List Field) (ps : Pairs) : Bool :=
  ps.all fun p => fs.all fun f => f.code != p.1 || f.ok p.2

/-- The fields named take the values given (R141). -/
def putPairs {E : Type} (fs : List (FieldOf E)) (e : E) (ps : Pairs) : E :=
  ps.foldl (fun e p => match fs.find? fun f => f.code == p.1 with | some f => f.put p.2 e | none => e) e

/-- An entry of a table with a valid field as it is stored: defaults for the fields not named, the empty entry when valid is 0
(R141). -/
def buildEntry {E : Type} (fs : List (FieldOf E)) (fresh empty : E) (valid : E → Bool) (ps : Pairs) : E :=
  let e := putPairs fs fresh ps
  if valid e then e else empty

/-- Every field of an entry, as TABLE_READ gives it (R142, R188). -/
def entryBytes {E : Type} (fs : List (FieldOf E)) (e : E) : List Byte :=
  byteOf fs.length ++ fs.flatMap fun f => byteOf f.code ++ beBytes f.bytes (f.get e)

/-- The bank with entry `i` of a table replaced (R141). -/
def Bank.write (b : Bank) (t : TableId) (i : Nat) (ps : Pairs) : Bank :=
  match t with
  | .channel => { b with channels := b.channels.set i (buildEntry channelFields { valid := true } {} (·.valid) ps) }
  | .watch => { b with watches := b.watches.set i (buildEntry watchFields { valid := true } {} (·.valid) ps) }
  | .trigger => { b with triggers := b.triggers.set i (buildEntry triggerFields { valid := true } {} (·.valid) ps) }
  | .action => { b with actions := b.actions.set i (buildEntry actionFields { valid := true } {} (·.valid) ps) }
  | .train => { b with trains := b.trains.set i (buildEntry trainFields { valid := true } {} (·.valid) ps) }
  | .timer => { b with timers := b.timers.set i (buildEntry timerFields { valid := true } {} (·.valid) ps) }
  | .line =>
    if i < 8 then { b with outputs := b.outputs.set i (putPairs outputFields {} ps) }
    else { b with inputs := b.inputs.set (i - 8) (putPairs inputFields {} ps) }
  | .patch => { b with patches := b.patches.set i (buildEntry patchFields { valid := true } {} (·.valid) ps) }
  | .settings => { b with settings := putPairs settingsFields {} ps }

/-- The bank with consecutive entries from index `i` on replaced (R140). -/
def Bank.writeAll (b : Bank) (t : TableId) : Nat → List Pairs → Bank
  | _, [] => b
  | i, ps :: rest => (b.write t i ps).writeAll t (i + 1) rest

/-- Entry `i` of a table as TABLE_READ gives it (R142). -/
def Bank.read (b : Bank) (t : TableId) (i : Nat) : List Byte :=
  match t with
  | .channel => match b.channels.get? i with | some e => entryBytes channelFields e | none => []
  | .watch => match b.watches.get? i with | some e => entryBytes watchFields e | none => []
  | .trigger => match b.triggers.get? i with | some e => entryBytes triggerFields e | none => []
  | .action => match b.actions.get? i with | some e => entryBytes actionFields e | none => []
  | .train => match b.trains.get? i with | some e => entryBytes trainFields e | none => []
  | .timer => match b.timers.get? i with | some e => entryBytes timerFields e | none => []
  | .line =>
    match b.outputs.get? i with
    | some e => entryBytes outputFields e
    | none => match b.inputs.get? (i - 8) with | some e => entryBytes inputFields e | none => []
  | .patch => match b.patches.get? i with | some e => entryBytes patchFields e | none => []
  | .settings => entryBytes settingsFields b.settings

/-- What the body of a TABLE_WRITE gives (R140). -/
structure TableWrite where
  table : TableId
  first : Nat
  entries : List Pairs
  deriving DecidableEq, Repr

/-- The body of a TABLE_WRITE, or none when it is MALFORMED (R140). -/
def readTableWrite (body : List Byte) : Option TableWrite :=
  match body with
  | c :: i :: n :: rest =>
    match TableId.ofCode c with
    | none => none
    | some t =>
      match readEntries t n.toNat i.toNat rest with
      | none => none
      | some es => if es.all distinctCodes then some ⟨t, i.toNat, es⟩ else none
  | _ => none

/-- The values of each entry lie in range, entry by entry from index `i` on. -/
def entriesInRange (t : TableId) : Nat → List Pairs → Bool
  | _, [] => true
  | i, ps :: rest => pairsInRange (t.fields i) ps && entriesInRange t (i + 1) rest

/-- Whether count, index and values of a TABLE_WRITE lie in range (R140). -/
def TableWrite.inRange (w : TableWrite) : Bool :=
  within 1 8 w.entries.length && decide (w.first + w.entries.length ≤ w.table.size) && entriesInRange w.table w.first w.entries

/-- A set of triggers as a count byte and that many index bytes, or none when the body does not read so (R188). -/
def readTriggerSet (body : List Byte) : Option (List Nat) :=
  match body with
  | n :: rest => if rest.length = n.toNat then some (rest.map BitVec.toNat) else none
  | [] => none

/-- 1 to 48 indices, none above 47 (R16, R17). -/
def triggerSetOk (l : List Nat) : Bool := within 1 48 l.length && l.all fun i => decide (i < 48)

/-- The set of trigger indices, each once (R16). -/
def setOf (l : List Nat) : BitVec 48 := l.foldl (fun v i => v ||| BitVec.twoPow 48 i) 0#48

end Sys2Proof.Machine
end

