-- ==== Sys2Proof/Machine/Banks.lean ====
section
/-! DEFINITION. The Configuration Banks: validation (R143, R144) and the swap (R148, R149). -/

namespace Sys2Proof.Machine

/-- A failed check: table code, entry index, reason code (Figure 9-12). -/
structure Failure where
  table : Nat
  index : Nat
  reason : Nat
  deriving DecidableEq, Repr

/-- Checks in order, each with its reason. -/
abbrev Checks := List (Bool × Nat)

/-- The reason of the first check that fails (R143). -/
def firstReason (l : Checks) : Option Nat := (l.find? fun c => !c.1).map Prod.snd

/-- The first failing entry of a table, in ascending index (R143). -/
def firstIn (table n : Nat) (checks : Fin n → Checks) : Option Failure :=
  (List.finRange n).findSome? fun i => (firstReason (checks i)).map fun r => ⟨table, i, r⟩

/-- The checks of an entry that is valid; none for one that is not. -/
def whenValid (valid : Bool) (l : Checks) : Checks := if valid then l else []

/-- Whether an index names an entry of the table for which `p` holds. -/
def names {n : Nat} (i : Nat) (p : Fin n → Bool) : Bool := match toFin? n i with | some k => p k | none => false

variable (b : Bank)

/-- Whether a channel is not of kind FLAGS. -/
def Bank.numeric (c : Fin 32) : Bool := (b.channels.get c).kind != .flags

/-- R60. A clash is found at the later of its two entries, so of several pairs the one whose later entry comes first is reported:
the model's choice, log 19. -/
def Bank.channelChecks (i : Fin 32) : Checks :=
  let e := b.channels.get i
  whenValid e.valid [
    ((List.finRange 32).all fun j => !(decide (j < i) && (b.channels.get j).valid && (b.channels.get j).station == e.station
      && (b.channels.get j).slot == e.slot), 0x03)]

/-- R43, Figure 3-2. The difference B − A of the OUTSIDE check is formed exactly: the model's choice, log 28. -/
def Bank.watchChecks (i : Fin 64) : Checks :=
  let e := b.watches.get i
  whenValid e.valid [
    ((b.channels.get e.channel).valid, 0x01),
    (!e.test.magnitude || b.numeric e.channel, 0x02),
    (e.test.magnitude || !b.numeric e.channel, 0x02),
    (!e.test.window || decide (e.a.toInt ≤ e.b.toInt), 0x04),
    (e.test != .outside || decide (2 * (e.hysteresis : Int) ≤ e.b.toInt - e.a.toInt), 0x05),
    (e.test.magnitude || e.lead == 0, 0x06)]

/-- The range of a source index (R144). -/
def SourceKind.range : SourceKind → Option Nat
  | .none | .cycleStart => Option.none
  | .watchRise | .watchFall | .watchEdge => some 64
  | .inputEdge | .timerExpiry => some 4
  | .trainStart | .trainDivision | .trainEnd => some 8
  | .channelStale => some 32

/-- Whether the source named is valid (R144). -/
def Bank.sourceValid (e : TriggerEntry) : Bool :=
  match e.kind with
  | .none | .cycleStart | .inputEdge => true
  | .watchRise | .watchFall | .watchEdge => names e.index fun k : Fin 64 => (b.watches.get k).valid
  | .timerExpiry => names e.index fun k : Fin 4 => (b.timers.get k).valid
  | .trainStart | .trainDivision | .trainEnd => names e.index fun k : Fin 8 => (b.trains.get k).valid
  | .channelStale => names e.index fun k : Fin 32 => (b.channels.get k).valid

/-- Whether a qualifier names input `k`. -/
def Qualifier.uses (q : Qualifier) (k : Nat) : Bool :=
  match q with
  | .none => false
  | .high j | .low j => j.val == k

/-- R144. -/
def Bank.triggerChecks (i : Fin 48) : Checks :=
  let e := b.triggers.get i
  whenValid e.valid [
    ((match e.kind.range with | some n => decide (e.index < n) | none => true), 0x08),
    (b.sourceValid e, 0x01),
    (e.kind != .cycleStart || decide (e.phase < e.divisor), 0x09),
    (e.kind != .inputEdge || !e.qualifier.uses e.index, 0x0A),
    (e.joins.all fun j => j != i, 0x0B),
    (decide e.joins.Nodup, 0x0B),
    (e.joins.all fun j => (b.triggers.get j).valid, 0x01),
    (decide (e.first + e.count ≤ 256), 0x07),
    ((List.range e.count).all fun k => names (e.first + k) fun a : Fin 256 => (b.actions.get a).valid, 0x01)]

/-- The two checks of an aux channel (Figure 2-3). -/
def Bank.auxChecks (needed : Bool) (aux : Nat) : Checks := [
  (!needed || names aux fun c : Fin 32 => (b.channels.get c).valid, 0x01),
  (!needed || names aux fun c : Fin 32 => b.numeric c, 0x02)]

/-- Whether a target is an output line owned by ACTIONS (Figure 2-3). -/
def Bank.actionOwned (i : Nat) : Bool := names i fun j : Fin 8 => (b.outputs.get j).owner.isNone

/-- R24, Figure 2-3. -/
def Bank.actionChecks (i : Fin 256) : Checks :=
  let e := b.actions.get i
  let watchTest := (toFin? 64 e.target).map fun k => (b.watches.get k).test
  whenValid e.valid <| match e.kind with
    | .pulse => [(decide (e.target < 8), 0x01), (b.actionOwned e.target, 0x0E), (e.aux != 0, 0x0D)]
    | .level => [(decide (e.target < 8), 0x01), (b.actionOwned e.target, 0x0E), (decide (e.mode ≤ 2), 0x0C)]
    | .patch => [(names e.target fun k : Fin 16 => (b.patches.get k).valid, 0x01), (decide (e.mode ≤ 1), 0x0C)]
        ++ b.auxChecks (e.mode == 1) e.aux
    | .unpatch => [(names e.target fun k : Fin 16 => (b.patches.get k).valid, 0x01)]
    | .capture => [(names e.target fun k : Fin 32 => (b.channels.get k).valid, 0x01)]
    | .mark => []
    | .threshold => [
        (names e.target fun k : Fin 64 => (b.watches.get k).valid, 0x01),
        (decide (e.mode < 3) || (watchTest.map WatchTest.window).getD false, 0x0C),
        (e.mode == 0 || (watchTest.map WatchTest.magnitude).getD false, 0x0C)]
        ++ b.auxChecks (e.mode == 2 || e.mode == 5) e.aux
    | .rebase => [
        (names e.target fun k : Fin 32 => (b.channels.get k).valid, 0x01),
        (names e.target fun k : Fin 32 => b.numeric k, 0x02)]
    | .trainStart | .trainStop => [(names e.target fun k : Fin 8 => (b.trains.get k).valid, 0x01)]
    | .timerStart | .timerStop | .timerCapture => [(names e.target fun k : Fin 4 => (b.timers.get k).valid, 0x01)]
    | .enable | .disable => [(names e.target fun k : Fin 48 => (b.triggers.get k).valid, 0x01)]

/-- R78, Figure 5-3, but for its last check. -/
def Bank.trainChecks (i : Fin 8) : Checks :=
  let e := b.trains.get i
  whenValid e.valid [
    ((b.channels.get e.channel).valid, 0x01),
    (b.numeric e.channel, 0x02),
    (decide (e.width < e.interval), 0x0F),
    ((match e.line with | some j => (b.outputs.get j).owner == some i | none => true), 0x10)]

/-- The last check of R78, made on the output lines (R143). -/
def Bank.lineChecks (j : Fin 8) : Checks := [
  ((match (b.outputs.get j).owner with
    | some k => (b.trains.get k).valid && (b.trains.get k).line == some j
    | none => true), 0x11)]

/-- R108. Which of several pairs that clash is reported is the model's choice, as for R60: log 19. -/
def Bank.patchChecks (i : Fin 16) : Checks :=
  let e := b.patches.get i
  whenValid e.valid [
    ((List.finRange 16).all fun j => !(decide (j < i) && (b.patches.get j).valid && (b.patches.get j).station == e.station
      && (b.patches.get j).slot == e.slot && (b.patches.get j).mask &&& e.mask != 0#32), 0x12)]

/-- The first check of a bank that fails (R143). -/
def Bank.failure : Option Failure :=
  firstIn 0x01 32 b.channelChecks <|> firstIn 0x02 64 b.watchChecks <|> firstIn 0x03 48 b.triggerChecks
    <|> firstIn 0x04 256 b.actionChecks <|> firstIn 0x05 8 b.trainChecks <|> firstIn 0x07 8 b.lineChecks
    <|> firstIn 0x08 16 b.patchChecks

/-- The start of a trigger record, and its state DISABLED whatever the entry says while `disarmed` (R1). -/
def TriggerEntry.start (e : TriggerEntry) (disarmed : Bool) : TriggerRt := { armed := e.valid && e.startsArmed && !disarmed }

/-- The watch record after a swap (R56). -/
def carryWatch (old new : Bank) (i : Fin 64) (w : WatchRt) : WatchRt :=
  let e := new.watches.get i
  if old.watches.get i = e then
    (if old.channels.get e.channel = new.channels.get e.channel then w else w.forget)
  else e.start

/-- The train record after a swap (R90). -/
def carryTrain (old new : Bank) (i : Fin 8) (t : TrainRt) : TrainRt :=
  let e := new.trains.get i
  if old.trains.get i = e then
    (if old.channels.get e.channel = new.channels.get e.channel then t else t.halt)
  else {}

/-- The report timer stops, standing where it is (R130, R131, R134, R135; log 29). -/
def ReportTimer.stop (t : ReportTimer) : ReportTimer := { t with running := false }

/-- Every SENT record returns to PENDING in place, and the report timer stops (R131, R134). -/
def Report.revert (r : Report) : Report :=
  { r with records := r.records.map fun d => { d with sent := none }, timer := r.timer.stop, timeoutDue := false }

/-- The reporter at a swap (R134). -/
def Report.carry (old new : Settings) (r : Report) : Report :=
  if old.markers = new.markers then r
  else if new.markers then { r with state := .active, resend := 0 }
  else { r.revert with state := .polled, resend := 0 }

/-- The generation after a swap (R148). -/
def nextGeneration (g : Nat) : Nat := if g = 65535 then 1 else g + 1

/-- The banks after a swap (R148). -/
def Banks.swap (k : Banks) : Banks :=
  { active := k.staging, staging := k.staging, commitPending := false, outcome := some .swapped
    generation := nextGeneration k.generation }

/-- The swap, without the input changes that the new filters let through (R148, R149). -/
def State.swapBanks (s : State) : State :=
  let old := s.banks.active
  let new := s.banks.staging
  let s1 := s.withBanks s.banks.swap
  let s2 := s1.withChannels (s1.channels.mapIdx fun i c => if old.channels.get i = new.channels.get i then c else {})
  let s3 := s2.withWatches (s2.watches.mapIdx (carryWatch old new))
  let s4 := s3.withTriggers (s3.triggers.mapIdx fun i t =>
    if old.triggers.get i = new.triggers.get i then t else (new.triggers.get i).start (s.engine = .disarmed))
  let s5 := s4.withTrains (s4.trains.mapIdx (carryTrain old new))
  let s6 := s5.withTimers (s5.timers.mapIdx fun i t => if old.timers.get i = new.timers.get i then t else {})
  let s7 := s6.withOutputs (s6.outputs.mapIdx fun j o => if old.outputs.get j = new.outputs.get j then o else {})
  let s8 := s7.withPatches (s7.patches.mapIdx fun i p => if old.patches.get i = new.patches.get i then p else {})
  s8.withReport (s8.report.carry old.settings new.settings)

/-- The swap (R148, R149); an input change whose pin has held for the filter now in force is accepted with it (R105). -/
def State.swap (s : State) : State := s.swapBanks.acceptDue

end Sys2Proof.Machine
end

