-- ==== Sys2Proof/Machine/Engine.lean ====
section
/-! DEFINITION. Engine reset, configuration clear, and the runs of the engine (chapter 10, R151). -/

namespace Sys2Proof.Machine

/-- The Report Unit after an engine reset (R125, R126, R135). -/
def Report.afterReset (e : Settings) (r : Report) : Report :=
  { state := if e.markers then .active else .polled, timer := r.timer.stop, epoch := r.epoch + 1#8 }

/-- The banks after an engine reset (R150). -/
def Banks.afterReset (k : Banks) : Banks :=
  if k.commitPending then { k with commitPending := false, outcome := some .cancelled } else k

/-- The frame of a burst that an engine reset interrupts, and those of the discarded FRAME events, are released unedited (R4,
R19). -/
def State.releaseAll (s : State) : State :=
  let ids := s.intake.filterMap Event.frameId ++ (s.burst.bind Burst.frame).toList
  s.withForward (ids.foldl Forward.release s.forward)

/-- An engine reset (R157, Figure 10-3). -/
def State.engineReset (s : State) : State :=
  let b := s.banks.active
  let s1 := (s.releaseAll.withIntake []).withBurst none
  let s2 := (s1.withEngine .stopped).withFaults (s1.faults.map fun p => { p with flag := false })
  let s3 := s2.withTriggers (.ofFn fun i => (b.triggers.get i).start false)
  let s4 := (s3.withChannels (.replicate 32 {})).withWatches (.ofFn fun i => (b.watches.get i).start)
  let s5 := (s4.withTrains (.replicate 8 {})).withTimers (.replicate 4 {})
  let s6 := (s5.withOutputs (.replicate 8 {})).withPatches (.replicate 16 {})
  (s6.withReport (s6.report.afterReset b.settings)).withBanks s6.banks.afterReset

/-- The banks are emptied (R151). -/
def Banks.clear (k : Banks) : Banks := { k with active := .empty, staging := .empty, generation := 0 }

/-- CONFIG_CLEAR: the banks are emptied, an engine reset follows, and pending input changes are accepted under filter 0 (R105,
R151). -/
def State.configClear (s : State) : State := ((s.withBanks s.banks.clear).engineReset).acceptDue

/-- Whether a kind of the disarm set is set in the Fault Set (R155). -/
def State.disarmKindSet (s : State) : Bool := (List.finRange 6).any fun k => s.inDisarmSet k && s.flag k

/-- Whether an ENGINE_RUN is refused with FAULTED (R155). -/
def State.runFaulted (s : State) : Bool := decide (s.engine = .disarmed) && s.disarmKindSet

/-- Whether the cause of a fault kind persists (Figure 10-4). -/
def State.causePersists (s : State) (k : Fin 6) : Bool :=
  if k = linkDown then s.link.inbound.state != .up
  else if k = cycleLost then s.tracker.state == .lost
  else if k = reportHalt then s.report.state == .halted
  else false

/-- The code of the engine state (Figure 12-8). -/
def EngineState.code : EngineState → Nat
  | .stopped => 0 | .running => 1 | .disarmed => 2

end Sys2Proof.Machine
end

