-- ==== Sys2Proof/Machine/Agent.lean ====
section
/-! DEFINITION. The Management Agent: responses, the duplicate cache, the session and its lease, and claims on the Trigger Unit
(R165 to R173). -/

namespace Sys2Proof.Machine

/-- Whether a request comes from the holder (R168). -/
def Session.isOf (h : Session) (q : Request) : Bool := h.station == q.source && h.tag == q.tag

/-- Whether a request comes from the holder of the session (R168). -/
def Agent.isHolder (g : Agent) (q : Request) : Bool := match g.session with | some h => h.isOf q | none => false

/-- A header byte of a request, or a free value where the request is too short to carry it (log 6). -/
def State.headerByte (s : State) (q : Request) (i : Nat) : Byte := q.bytes.getD i (Config.absentByte (s.freeIdx + i))

/-- The response to a request, repeating its header fields (R164, R165). -/
def State.responseTo (s : State) (q : Request) (status : Byte) (body : List Byte) : Response :=
  { dest := q.source
    tag := BitVec.ofNat 16 (beNat [s.headerByte q 0, s.headerByte q 1])
    seq := s.headerByte q 2
    kind := s.headerByte q 3
    status := status
    body := body }

/-- A response joins the Response Queue (R167). -/
def Agent.push (g : Agent) (r : Response) : Agent := { g with responses := g.responses ++ [r] }

/-- A header fault is answered MALFORMED (R167, step 1). Neither session nor cache is touched: that the holder's lease does not
restart even when the kind needs the session is the model's choice, log 18. The free values of the header bytes that are missing
have been read. -/
def State.answerHeaderFault (s : State) (q : Request) : State :=
  (s.withAgent (s.agent.push (s.responseTo q stMalformed []))).withFreeIdx (s.freeIdx + 4)

/-- Whether a request is a SESSION_CLOSE, whose response is never cached (R170, R172). -/
def Request.isClose (q : Request) : Bool := q.kind? == some 0x02#8

/-- The end of a request's execution: its response, and the cache when the request is the holder's and no SESSION_CLOSE (R167,
R172). -/
def State.answer (s : State) (q : Request) (status : Byte) (body : List Byte) : State :=
  let r := s.responseTo q status body
  let g := s.agent.push r
  s.withAgent (if s.agent.isHolder q && !q.isClose then { g with cache := some ⟨r.seq, r⟩ } else g)

/-- The lease restarts. An expiry that has fallen due at the same moment does not come, and its close counts 1 (R171, log 5). -/
def Session.restart (h : Session) : Session := { h with lease := bit h.expiryDue, expiryDue := false }

/-- The holder's lease restarts (R171). -/
def Agent.restartLease (g : Agent) : Agent := { g with session := g.session.map Session.restart }

/-- The session ends, and the cache with it (R168). -/
def Agent.endSession (g : Agent) : Agent := { g with session := none, cache := none }

/-- A close counts in the lease; at the lease setting the session is to end (R171). -/
def Session.countClose (limit : Nat) (h : Session) : Session :=
  let n := satInc 4096 h.lease
  { h with lease := n, expiryDue := h.expiryDue || decide (limit ≤ n) }

/-- The cached response that answers a request of the holder, if the request is a duplicate (R172). -/
def Agent.duplicate (g : Agent) (q : Request) : Option Response :=
  match g.cache, q.bytes[2]? with
  | some c, some n => if c.seq = n then some c.response else none
  | _, _ => none

/-- Whether the executor is inside a firing, so that claims wait (R17). Before a burst's first entry, after its last firing and
after an interruption it is not, so claims are taken there too, ahead of the end-of-burst work: the model's choice, log 26. -/
def State.midFiring (s : State) : Bool := match s.burst with | some b => b.firing.isSome | none => false

/-- A request in execution that waits (R167). -/
def State.waitFor (s : State) (q : Request) : State := s.withAgent { s.agent with hold := some q }

/-- No request waits any more. -/
def State.unhold (s : State) : State := s.withAgent { s.agent with hold := none }

/-- The Agent takes the request at the head of its Inbox, and treats it in the order of R167 (log 18). `mine` says which requests
are of the command's kind, `needs` which of them need the session; `run` executes the request and answers it. A request that is not of
the command's kind is not taken (log 1). -/
def serve (mine needs : Request → Bool) (run : Request → State → State) (s : State) : State :=
  match s.agent.inbox with
  | [] => s
  | q :: rest =>
    if s.agent.hold.isNone && decide (s.agent.responses.length < Config.agentSize) && mine q then
      let s1 := s.withAgent { s.agent with inbox := rest }
      if q.headerFault then s1.answerHeaderFault q
      else
        match (if s.agent.isHolder q then s.agent.duplicate q else none) with
        | some r => s1.withAgent (s1.agent.push r).restartLease
        | none =>
          if !((q.kind?.map knownKind).getD false) then s1.answer q stMalformed []
          else if needs q then
            if s.agent.isHolder q then run q (s1.withAgent s1.agent.restartLease) else s1.answer q stNoSession []
          else run q s1
    else s

/-- A request of kind `k`. A request whose kind is missing or unknown may be taken by any command, which answers it MALFORMED
(R167, log 24). -/
def ofKind (k : Nat) (q : Request) : Bool :=
  match q.kind? with
  | some c => c.toNat == k || !knownKind c
  | none => true

def always (_ : Request) : Bool := true
def never (_ : Request) : Bool := false

/-- A request that carries no body (R165). -/
def bare (run : Request → State → State) (q : Request) (s : State) : State :=
  if q.body = [] then run q s else s.answer q stMalformed []

/-- The waiting broadcast stop is taken (R173). -/
def State.takeStopClaim (s : State) : State :=
  if s.agent.stopClaim then (s.withAgent { s.agent with stopClaim := false }).stopEngine else s

/-- A broadcast stop that waits and the claim `take` meet where both can be taken; which comes first is free (R17, R173, log 6). -/
def State.withStopClaim (take : State → State) (s : State) : State :=
  (if s.pickBelow 2 = 0 then take s.takeStopClaim else (take s).takeStopClaim).spend

/-- A claim on the Trigger Unit: taken now, with a broadcast stop that waits, or between two firings when one is in hand (R17,
R167, R173, log 26). -/
def claim (take : Request → State → State) (q : Request) (s : State) : State :=
  if s.midFiring then s.waitFor q
  else if s.agent.stopClaim then s.withStopClaim (take q)
  else take q s

/-- The claim of ENGINE_RUN (R155). -/
def takeRun (q : Request) (s : State) : State :=
  if s.runFaulted then s.answer q stFaulted (byteOf s.engine.code)
  else
    let s1 := s.withEngine .running
    s1.answer q stOk (byteOf s1.engine.code)

/-- The claim of ENGINE_STOP (R156). -/
def takeStop (q : Request) (s : State) : State := s.stopEngine.answer q stOk []

/-- The claim of ENGINE_RESET (R157). -/
def takeReset (q : Request) (s : State) : State := s.engineReset.answer q stOk []

/-- The claim of CONFIG_CLEAR (R151). -/
def takeClear (q : Request) (s : State) : State := s.configClear.answer q stOk []

/-- The named valid triggers take a state (R17). -/
def State.setTriggers (s : State) (l : List Nat) (armed : Bool) : State :=
  s.withTriggers (s.triggers.mapIdx fun i t =>
    if (s.banks.active.triggers.get i).valid && l.contains i.val then { t with armed := armed } else t)

/-- The indices a request's body names. -/
def Request.triggerSet (q : Request) : List Nat := (readTriggerSet q.body).getD []

/-- The claim of TRIGGER_ENABLE (R17). -/
def takeEnable (q : Request) (s : State) : State :=
  if s.engine = .disarmed then s.answer q stFaulted [] else (s.setTriggers q.triggerSet true).answer q stOk []

/-- The claim of TRIGGER_DISABLE (R17). -/
def takeDisable (q : Request) (s : State) : State := (s.setTriggers q.triggerSet false).answer q stOk []

/-- A broadcast ENGINE_STOP, which receives no response: its claim is taken now, or waits when a firing is in hand (R173). -/
def State.broadcastStop (s : State) : State :=
  let s1 := s.withAgent { s.agent with stopClaim := true }
  if s.midFiring then s1 else s1.takeStopClaim

end Sys2Proof.Machine
end

