-- ==== Sys2Proof/Machine/Reads.lean ====
section
/-! DEFINITION. The bodies of the answers to the reads (R58, R76, R91, R95, R106, R119, R136, R161, R163, R174, R175, R188; log 9). -/

namespace Sys2Proof.Machine

/-- A presence byte, and the fields when they are present (R188). -/
def optional {α : Type} (o : Option α) (f : α → List Byte) : List Byte :=
  match o with
  | some a => flagByte true ++ f a
  | none => flagByte false

def PortState.code : PortState → Nat
  | .down => 0 | .aligning => 1 | .up => 2

def TrackerState.code : TrackerState → Nat
  | .unlocked => 0 | .acquiring => 1 | .locked _ => 2 | .missing => 3 | .lost => 4

/-- The segment while LOCKED (R184). -/
def TrackerState.segment : TrackerState → Option Segment
  | .locked g => some g
  | _ => none

def Segment.code : Segment → Nat
  | .process => 0 | .openSeg => 1

def ReporterState.code : ReporterState → Nat
  | .polled => 0 | .active => 1 | .halted => 2

def outcomeCode : Option CommitOutcome → Nat
  | none => 0 | some .swapped => 1 | some .aborted => 2 | some .cancelled => 3

def Truth.code : Truth → Nat
  | .unknown => 0 | .isFalse => 1 | .isTrue => 2

def TrainState.code : TrainState → Nat
  | .idle => 0 | .running => 1 | .ending => 2

/-- The frame numbers that are outstanding, oldest first (R128). -/
def Report.outstanding (r : Report) : List (BitVec 16) := (r.records.filterMap (·.sent)).eraseDups

/-- The flags of the six fault kinds, one byte each (log 9). -/
def State.flagBytes (s : State) : List Byte := (List.finRange 6).flatMap fun k => flagByte (s.flag k)

/-- The Report Unit's values in STATUS_READ (R136). -/
def State.reportStatus (s : State) : List Byte :=
  let r := s.report
  byteOf r.state.code ++ byteOf r.records.length ++ byteOf (r.records.countP fun d => d.sent.isNone)
    ++ byteOf r.outstanding.length
    ++ byteOf r.timer.count ++ byteOf r.resend ++ [r.epoch] ++ beBytes 4 r.nextSeq.toNat ++ beBytes 2 r.nextFrame.toNat ++ beBytes 2 r.gap

/-- The body of a STATUS_READ answer (R174, Figure 11-4). -/
def State.statusBody (s : State) : List Byte :=
  let settings := s.banks.active.settings
  [s.link.address]
    ++ (match s.agent.session with
        | some h => flagByte true ++ [h.station] ++ beBytes 2 h.lease
        | none => flagByte false ++ [0#8] ++ beBytes 2 0)
    ++ byteOf s.agent.inbox.length ++ byteOf s.agent.responses.length
    ++ byteOf s.engine.code ++ s.flagBytes ++ beBytes 4 (s.counter .framesIn) ++ beBytes 4 (s.counter .reportLost)
    ++ byteOf s.link.inbound.state.code ++ byteOf s.link.outbound.state.code
    ++ byteOf s.tracker.state.code ++ optional s.tracker.state.segment (fun g => byteOf g.code)
    ++ optional s.tracker.ref (fun r => beBytes 2 r.number.toNat ++ beBytes 2 r.period)
    ++ beBytes 6 s.tracker.ordinal.toNat
    ++ flagByte s.banks.commitPending ++ byteOf (outcomeCode s.banks.outcome) ++ beBytes 2 s.banks.generation
    ++ s.reportStatus
    ++ beBytes 2 settings.lease ++ byteOf settings.insertionBudget

/-- The body of a FAULT_READ answer (R161). -/
def State.faultBody (s : State) : List Byte :=
  ((List.finRange 6).flatMap fun k => flagByte (s.flag k) ++ beBytes 2 (s.faults.get k).raises)
    ++ byteOf s.banks.active.settings.disarm.toNat ++ byteOf s.engine.code

/-- The body of a COUNTER_READ answer (R163). -/
def State.counterBody (s : State) : List Byte :=
  ((List.finRange 19).flatMap fun c => beBytes 4 (s.counters.get c))
    ++ (List.finRange 6).flatMap fun k => beBytes 2 (s.faults.get k).raises

/-- The valid flag, and the runtime of an entry that is valid (R175, R188). -/
def validRuntime (valid : Bool) (l : List Byte) : List Byte := if valid then flagByte true ++ l else flagByte false

/-- A channel (R76). -/
def State.channelRuntime (s : State) (i : Fin 32) : List Byte :=
  let c := s.channels.get i
  validRuntime (s.banks.active.channels.get i).valid
    (byteOf i ++ byteOf c.value.code ++ byteOf c.misses ++ flagByte c.updated
      ++ optional (match c.value with | .seen _ m => some m | .unseen => none) fun m =>
          beBytes 6 m.extended.toNat ++ beBytes 4 m.raw.toNat ++ beBytes 4 m.velocity.toNat ++ beBytes 6 m.ordinal.toNat)

/-- A watch (R58). -/
def State.watchRuntime (s : State) (i : Fin 64) : List Byte :=
  let w := s.watches.get i
  validRuntime (s.banks.active.watches.get i).valid
    (byteOf i ++ byteOf w.truth.code ++ beBytes 6 w.a.toNat ++ beBytes 6 w.b.toNat)

/-- A trigger (R1, R22). -/
def State.triggerRuntime (s : State) (i : Fin 48) : List Byte :=
  let t := s.triggers.get i
  validRuntime (s.banks.active.triggers.get i).valid
    (flagByte (!t.armed) ++ beBytes 4 t.fires ++ optional t.lastFire Stamp.bytes ++ beBytes 2 t.merged)

/-- A train (R91). -/
def State.trainRuntime (s : State) (i : Fin 8) : List Byte :=
  let t := s.trains.get i
  validRuntime (s.banks.active.trains.get i).valid
    (byteOf i ++ byteOf t.state.code ++ flagByte t.on ++ beBytes 4 t.emitted ++ beBytes 2 t.crowded
      ++ optional t.run (fun r => beBytes 6 r.origin.toNat ++ beBytes 6 r.highWater)
      ++ optional (t.run.bind TrainRun.last) (beBytes 6))

/-- A timer (R95). -/
def State.timerRuntime (s : State) (i : Fin 4) : List Byte :=
  let t := s.timers.get i
  validRuntime (s.banks.active.timers.get i).valid (byteOf i ++ flagByte t.running ++ beBytes 3 t.elapsed)

/-- An output line (R106). -/
def State.outputRuntime (s : State) (j : Fin 8) : List Byte :=
  byteOf j ++ byteOf (ownerCode (s.banks.active.outputs.get j).owner) ++ flagByte (s.outputActive j)
    ++ beBytes 2 (s.outputs.get j).pulse ++ flagByte (s.outputPin j)

/-- An input line (R106). -/
def State.inputRuntime (s : State) (k : Fin 4) : List Byte :=
  let r := s.inputs.get k
  byteOf k ++ flagByte r.accepted ++ flagByte r.pin ++ flagByte r.since.isSome

/-- A patch entry (R119). -/
def State.patchRuntime (s : State) (i : Fin 16) : List Byte :=
  let p := s.patches.get i
  validRuntime (s.banks.active.patches.get i).valid
    (byteOf i ++ flagByte p.armed ++ beBytes 4 p.value.toNat ++ beBytes 4 p.applied ++ beBytes 2 p.overruns)

/-- The runtime of entries `first` to `first + count - 1` of one unit. -/
def runtimeOf {n : Nat} (f : Fin n → List Byte) (first count : Nat) : List Byte :=
  (List.range count).flatMap fun k => match toFin? n (first + k) with | some i => f i | none => []

/-- How many entries a unit has, by its code (R175). -/
def unitSize (unit : Nat) : Option Nat :=
  match unit with
  | 1 => some 32 | 2 => some 64 | 3 => some 48 | 4 => some 8 | 5 => some 4 | 6 => some 8 | 7 => some 4 | 8 => some 16
  | _ => none

/-- The body of a RUNTIME_READ answer (R175). -/
def State.runtimeBody (s : State) (unit first count : Nat) : List Byte :=
  match unit with
  | 1 => runtimeOf s.channelRuntime first count
  | 2 => runtimeOf s.watchRuntime first count
  | 3 => runtimeOf s.triggerRuntime first count
  | 4 => runtimeOf s.trainRuntime first count
  | 5 => runtimeOf s.timerRuntime first count
  | 6 => runtimeOf s.outputRuntime first count
  | 7 => runtimeOf s.inputRuntime first count
  | 8 => runtimeOf s.patchRuntime first count
  | _ => []

/-- Whether a unit with `n` entries has those a read asks for (R175). -/
def runtimeOk (n first count : Nat) : Bool := within 1 8 count && decide (first + count ≤ n)

/-- Whether a RUNTIME_READ reads trigger runtime: its unit is the triggers, and it passes its checks (R22, R175). -/
def Request.readsTriggers (q : Request) : Bool :=
  match q.body.map BitVec.toNat with
  | [unit, first, count] => unit == 3 && runtimeOk 48 first count
  | _ => false

/-- RUNTIME_READ answered (R175). A read of no unit is MALFORMED whatever its count: the model's choice, log 27. -/
def answerRuntime (q : Request) (s : State) : State :=
  match q.body.map BitVec.toNat with
  | [unit, first, count] =>
    match unitSize unit with
    | none => s.answer q stMalformed []
    | some n => if runtimeOk n first count then s.answer q stOk (s.runtimeBody unit first count) else s.answer q stRange []
  | _ => s.answer q stMalformed []

end Sys2Proof.Machine
end

