-- ==== Sys2Proof/Machine/Requests.lean ====
section
/-! DEFINITION. The requests: each takes the request at the head of the Inbox when it is of its kind (R167, Figure 11-1). -/

namespace Sys2Proof.Machine

/-- The outcome of a command that completes: every command of this model. -/
abbrev Result := Host.Outcome State Fault Refusal

/-- SESSION_OPEN executed (R169). -/
def openSession (q : Request) (s : State) : State :=
  let lease := beBytes 2 s.banks.active.settings.lease
  match s.agent.session with
  | none =>
    (s.withAgent { s.agent with session := some { station := q.source, tag := q.tag }, cache := none }).answer q stOk lease
  | some h =>
    if h.isOf q then (s.withAgent s.agent.restartLease).answer q stOk lease else s.answer q stOwned [h.station]

/-- SESSION_OPEN (R169). -/
def execSessionOpen (s : State) : Result := .next (serve (ofKind 0x01) never (bare openSession) s)

/-- SESSION_CLOSE executed: the session ends, and the response is not cached (R170). -/
def closeSession (q : Request) (s : State) : State := (s.withAgent s.agent.endSession).answer q stOk []

/-- SESSION_CLOSE (R170). -/
def execSessionClose (s : State) : Result := .next (serve (ofKind 0x02) always (bare closeSession) s)

/-- STATUS_READ executed (R174). -/
def readStatus (q : Request) (s : State) : State := s.answer q stOk s.statusBody

/-- STATUS_READ (R174). -/
def execStatusRead (s : State) : Result := .next (serve (ofKind 0x03) never (bare readStatus) s)

/-- TABLE_WRITE executed (R140, R141, R147). -/
def writeTable (q : Request) (s : State) : State :=
  if s.banks.commitPending then s.answer q stBusy []
  else
    match readTableWrite q.body with
    | none => s.answer q stMalformed []
    | some w =>
      if w.inRange then
        (s.withBanks { s.banks with staging := s.banks.staging.writeAll w.table w.first w.entries }).answer q stOk []
      else s.answer q stRange []

/-- TABLE_WRITE (R140). -/
def execTableWrite (s : State) : Result := .next (serve (ofKind 0x04) always writeTable s)

/-- TABLE_READ executed (R142; log 8 for the bank code). -/
def readTable (q : Request) (s : State) : State :=
  match q.body with
  | [bank, code, first, count] =>
    match TableId.ofCode code with
    | none => s.answer q stMalformed []
    | some t =>
      if 1 < bank.toNat then s.answer q stMalformed []
      else if within 1 8 count.toNat && decide (first.toNat + count.toNat ≤ t.size) then
        let b := if bank = 0#8 then s.banks.active else s.banks.staging
        s.answer q stOk ((List.range count.toNat).flatMap fun k => b.read t (first.toNat + k))
      else s.answer q stRange []
  | _ => s.answer q stMalformed []

/-- TABLE_READ (R142). -/
def execTableRead (s : State) : Result := .next (serve (ofKind 0x05) never readTable s)

/-- The body of an OK answer to COMMIT: the commit state and the generation (R145, R146). -/
def State.commitBody (s : State) : List Byte := flagByte s.banks.commitPending ++ beBytes 2 s.banks.generation

/-- A commit that needs no close is swapped in and answered (R146). -/
def finishCommit (q : Request) (s : State) : State :=
  let s1 := s.swap
  s1.answer q stOk s1.commitBody

/-- A commit that has passed validation (R145, R146). -/
def acceptCommit (q : Request) (s : State) : State :=
  match s.tracker.state with
  | .locked _ =>
    let s1 := s.withBanks { s.banks with commitPending := true }
    s1.answer q stOk s1.commitBody
  | _ => if s.burst.isNone then finishCommit q s else s.waitFor q

/-- COMMIT executed (R143, R145 to R147). -/
def commitStaging (q : Request) (s : State) : State :=
  if s.banks.commitPending then s.answer q stBusy []
  else
    match s.banks.staging.failure with
    | some f => s.answer q stInvalid (byteOf f.table ++ byteOf f.index ++ byteOf f.reason)
    | none => acceptCommit q s

/-- COMMIT (R145, R146). -/
def execCommit (s : State) : Result := .next (serve (ofKind 0x06) always (bare commitStaging) s)

/-- A burst that was to carry a swap no longer does (R147). -/
def State.dropCarry (s : State) : State := s.withBurst (s.burst.map fun b => { b with carriesSwap := false })

/-- COMMIT_ABORT executed (R147). -/
def abortCommit (q : Request) (s : State) : State :=
  if s.banks.commitPending then
    (s.withBanks { s.banks with commitPending := false, outcome := some .aborted }).dropCarry.answer q stOk []
  else s.answer q stWrongState []

/-- COMMIT_ABORT (R147). -/
def execCommitAbort (s : State) : Result := .next (serve (ofKind 0x07) always (bare abortCommit) s)

/-- ENGINE_RUN (R155). -/
def execEngineRun (s : State) : Result := .next (serve (ofKind 0x08) always (bare (claim takeRun)) s)

/-- ENGINE_STOP (R156). -/
def execEngineStop (s : State) : Result := .next (serve (ofKind 0x09) always (bare (claim takeStop)) s)

/-- ENGINE_RESET (R157). -/
def execEngineReset (s : State) : Result := .next (serve (ofKind 0x0A) always (bare (claim takeReset)) s)

/-- CONFIG_CLEAR (R151). -/
def execConfigClear (s : State) : Result := .next (serve (ofKind 0x0B) always (bare (claim takeClear)) s)

/-- A request whose body is a set of triggers: MALFORMED first (R167), then RANGE (R16, R17). That RANGE comes before TRIGGER_FIRE's
WRONG_STATE and QUEUE_FULL is the model's choice, log 27. -/
def withTriggerSet (run : Request → State → State) (q : Request) (s : State) : State :=
  match readTriggerSet q.body with
  | none => s.answer q stMalformed []
  | some l => if triggerSetOk l then run q s else s.answer q stRange []

/-- TRIGGER_ENABLE (R17). -/
def execTriggerEnable (s : State) : Result := .next (serve (ofKind 0x0C) always (withTriggerSet (claim takeEnable)) s)

/-- TRIGGER_DISABLE (R17). -/
def execTriggerDisable (s : State) : Result := .next (serve (ofKind 0x0D) always (withTriggerSet (claim takeDisable)) s)

/-- TRIGGER_FIRE executed (R16). Outside RUNNING with a full Intake Queue the answer is WRONG_STATE: the model's choice,
log 27. -/
def fireTriggers (q : Request) (s : State) : State :=
  if s.engine ≠ .running then s.answer q stWrongState []
  else if s.intake.length < Config.intakeSize then
    (s.appendEvent (.fireRequest (setOf q.triggerSet) s.stampNow)).answer q stOk []
  else s.answer q stQueueFull []

/-- TRIGGER_FIRE (R16). -/
def execTriggerFire (s : State) : Result := .next (serve (ofKind 0x0E) always (withTriggerSet fireTriggers) s)

/-- RUNTIME_READ executed: trigger runtime is read at the points where claims are taken (R22, R175). A read that fails its checks is
answered at once (R167, step 5). -/
def readRuntime (q : Request) (s : State) : State :=
  if q.readsTriggers then claim answerRuntime q s else answerRuntime q s

/-- RUNTIME_READ (R175). -/
def execRuntimeRead (s : State) : Result := .next (serve (ofKind 0x0F) never readRuntime s)

/-- The outstanding frames that an acknowledge of frame `n` covers; none when it names no outstanding frame (R129). -/
def Report.covered (r : Report) (n : BitVec 16) : Option (List (BitVec 16)) :=
  if r.outstanding.contains n then some (r.outstanding.take (r.outstanding.findIdx (· == n) + 1)) else none

/-- Whether a record was sent in one of these frames. -/
def Record.sentIn (l : List (BitVec 16)) (d : Record) : Bool := match d.sent with | some n => l.contains n | none => false

/-- The covered records are removed; the timer restarts at 0, and stops if no frame remains outstanding; the resend count is 0
(R129). -/
def Report.remove (r : Report) (l : List (BitVec 16)) : Report :=
  let rest := r.records.filter fun d => !d.sentIn l
  { r with records := rest, timer := ⟨rest.any (·.sent.isSome), 0⟩, timeoutDue := false, resend := 0 }

/-- REPORT_ACK executed (R129). -/
def ackReport (q : Request) (s : State) : State :=
  match q.body with
  | [e, n1, n0] =>
    match s.report.covered (BitVec.ofNat 16 (beNat [n1, n0])) with
    | some l =>
      if e = s.report.epoch then
        (s.withReport (s.report.remove l)).answer q stOk (byteOf (s.report.records.countP (Record.sentIn l)))
      else s.answer q stStaleAck []
    | none => s.answer q stStaleAck []
  | _ => s.answer q stMalformed []

/-- REPORT_ACK (R129). -/
def execReportAck (s : State) : Result := .next (serve (ofKind 0x10) always ackReport s)

/-- REPORT_READ executed (R133; log 9 for the body). A maximum outside 1 to 8 taken in ACTIVE is answered RANGE: the model's
choice, log 27. -/
def readReport (q : Request) (s : State) : State :=
  match q.body with
  | [n] =>
    if within 1 8 n.toNat then
      if s.report.state = .active then s.answer q stWrongState []
      else
        let rest := s.report.records.drop n.toNat
        (s.withReport { s.report with records := rest }).answer q stOk
          ((s.report.records.take n.toNat).flatMap Record.bytes ++ byteOf rest.length)
    else s.answer q stRange []
  | _ => s.answer q stMalformed []

/-- REPORT_READ (R133). -/
def execReportRead (s : State) : Result := .next (serve (ofKind 0x11) always readReport s)

/-- REPORT_RESUME executed (R132). -/
def resumeReport (q : Request) (s : State) : State :=
  if s.report.state = .halted then (s.withReport { s.report with state := .active, resend := 0 }).answer q stOk []
  else s.answer q stWrongState []

/-- REPORT_RESUME (R132). -/
def execReportResume (s : State) : Result := .next (serve (ofKind 0x12) always (bare resumeReport) s)

/-- FAULT_READ executed (R161). -/
def readFaults (q : Request) (s : State) : State := s.answer q stOk s.faultBody

/-- FAULT_READ (R161). -/
def execFaultRead (s : State) : Result := .next (serve (ofKind 0x13) never (bare readFaults) s)

/-- Whether a FAULT_CLEAR of the kinds in `m` clears kind `k` (R160). -/
def State.clears (s : State) (m : BitVec 6) (k : Fin 6) : Bool := m.getLsbD k && !s.causePersists k

/-- Whether a named kind that is set stays set (R160). -/
def State.staysSet (s : State) (m : BitVec 6) : Bool :=
  (List.finRange 6).any fun k => m.getLsbD k && s.flag k && s.causePersists k

/-- FAULT_CLEAR executed (R160). -/
def clearFaults (q : Request) (s : State) : State :=
  match q.body with
  | [v] =>
    if within 1 0x3F v.toNat then
      let m := v.truncate 6
      let s1 := s.withFaults (s.faults.mapIdx fun k p => if s.clears m k then { p with flag := false } else p)
      s1.answer q (if s.staysSet m then stCausePresent else stOk) s1.flagBytes
    else s.answer q stRange []
  | _ => s.answer q stMalformed []

/-- FAULT_CLEAR (R160). -/
def execFaultClear (s : State) : Result := .next (serve (ofKind 0x14) always clearFaults s)

/-- Whether a request is a COUNTER_READ with clear yes (R163). Only the one-byte body 1 is: a longer body that begins with 1 has no
clear flag, and is answered MALFORMED without the session test of R167, the model's reading, log 8. -/
def asksClear (q : Request) : Bool := q.kind? == some 0x15#8 && q.body == [1#8]

/-- COUNTER_READ with clear no executed (R163; log 8 for the flag's values). -/
def readCounters (q : Request) (s : State) : State :=
  if q.body = [0#8] then s.answer q stOk s.counterBody else s.answer q stMalformed []

/-- COUNTER_READ with clear no (R163). -/
def execCounterRead (s : State) : Result := .next (serve (fun q => ofKind 0x15 q && !asksClear q) never readCounters s)

/-- Every counter and raise count is set to 0 (R163). -/
def State.clearCounters (s : State) : State :=
  (s.withCounters (.replicate 19 0)).withFaults (s.faults.map fun p => { p with raises := 0 })

/-- COUNTER_READ with clear yes executed (R163). -/
def readAndClearCounters (q : Request) (s : State) : State := s.clearCounters.answer q stOk s.counterBody

/-- COUNTER_READ with clear yes (R163). -/
def execCounterReadClear (s : State) : Result :=
  .next (serve (fun q => ofKind 0x15 q && (asksClear q || decide (q.kind? ≠ some 0x15#8))) always readAndClearCounters s)

end Sys2Proof.Machine
end

