-- ==== Sys2Proof/Machine/Matching.lean ====
section
/-! DEFINITION. Matching things to triggers, and the pending-firing list (R2, R9, R10). -/

namespace Sys2Proof.Machine

/-- The source kind recorded for a thing (R9). -/
def Thing.kind : Thing → SourceKind
  | .watch _ rise => if rise then .watchRise else .watchFall
  | .input .. => .inputEdge
  | .timer _ => .timerExpiry
  | .trainStart _ => .trainStart
  | .trainDivision _ => .trainDivision
  | .trainEnd _ => .trainEnd
  | .cycleStart _ => .cycleStart
  | .channelStale _ => .channelStale

/-- The source index recorded for a thing (R9). -/
def Thing.index : Thing → Nat
  | .watch i _ => i
  | .input k _ _ => k
  | .timer k => k
  | .trainStart k | .trainDivision k | .trainEnd k => k
  | .cycleStart _ => 0
  | .channelStale c => c

/-- Whether a direction agrees with an edge field (R2). -/
def EdgeSel.agrees (e : EdgeSel) (rise : Bool) : Bool :=
  match e with
  | .rise => rise
  | .fall => !rise
  | .either => true

/-- Whether the four-level record meets a qualifier (R2). -/
def Qualifier.met (q : Qualifier) (levels : BitVec 4) : Bool :=
  match q with
  | .none => true
  | .high k => levels.getLsbD k
  | .low k => !levels.getLsbD k

/-- Whether a valid trigger matches a thing (R2, Figure 1-2). -/
def TriggerEntry.accepts (e : TriggerEntry) (x : Thing) : Bool :=
  e.valid && match x with
    | .watch i _ => e.index == i.val && (e.kind == .watchEdge || e.kind == x.kind)
    | .input k rise levels => e.kind == .inputEdge && e.index == k.val && e.edge.agrees rise && e.qualifier.met levels
    | .cycleStart n => e.kind == .cycleStart && n.toNat % e.divisor == e.phase
    | _ => e.kind == x.kind && e.index == x.index

/-- `n` firings of trigger `t` are dropped as merged (R9, R11, R13, R21). -/
def State.countMerged (s : State) (t : Fin 48) (n : Nat) : State :=
  (s.withTriggers (s.triggers.modify t fun r => { r with merged := satAdd max16 r.merged n })).bumpBy .mergedFiring n

/-- `n` entries of trigger `t` at the tail of the pending-firing list, those beyond its capacity dropped as merged (R9, R10). -/
def State.addEntries (s : State) (e : Entry) (n : Nat) : State :=
  match s.burst with
  | none => s
  | some b =>
    let fits := min n (Config.pendingSize - b.pending.length)
    let s1 := s.withBurst (some { b with pending := b.pending ++ List.replicate fits e })
    if fits < n then s1.countMerged e.trigger (n - fits) else s1

/-- The entries of trigger `t` for the things it matches, in the order produced (R9). -/
def State.addMatches (s : State) (l : Products) (t : Fin 48) : State :=
  overList (fun s x =>
    if (s.banks.active.triggers.get t).accepts x.1 then s.addEntries ⟨t, x.1.kind, x.1.index⟩ x.2 else s) s l

/-- Entries for things produced together, by ascending trigger index (R9). -/
def State.addProducts (s : State) (l : Products) : State := overList (fun s t => s.addMatches l t) s (List.finRange 48)

/-- A derived event, expanded when it is produced (R10). -/
def State.derive (s : State) (x : Thing) : State := s.addProducts [(x, 1)]

/-- The entries of a FIRE_REQUEST (R16). -/
def State.addNamed (s : State) (m : BitVec 48) : State :=
  overList (fun s (t : Fin 48) =>
    if m.getLsbD t && (s.banks.active.triggers.get t).valid then s.addEntries ⟨t, .none, 0⟩ 1 else s) s (List.finRange 48)

end Sys2Proof.Machine
end

