-- ==== Sys2Proof/Machine/Actions.lean ====
section
/-! DEFINITION. The fifteen action kinds (chapter 2). Each answers the state after it, or none when it is refused (R26). An action
whose target does not exist is refused too: a bank in force holds none (R24, log 11). -/

namespace Sys2Proof.Machine

/-- The stamp of the burst in progress (R4). -/
def State.burstStamp (s : State) : Stamp := match s.burst with | some b => b.stamp | none => s.stampNow

/-- PULSE (R28, R97). -/
def actPulse (e : ActionEntry) (s : State) : Option State :=
  (toFin? 8 e.target).map fun j => s.withOutputs (s.outputs.set j (.startPulse e.aux))

/-- LEVEL (R29, R98). -/
def actLevel (e : ActionEntry) (s : State) : Option State :=
  (toFin? 8 e.target).map fun j => s.withOutputs (s.outputs.modify j (OutputRt.setLevel e.mode))

/-- The sample of the channel named by an index, when it is FRESH or HELD (R30, R35). -/
def State.currentOf (s : State) (i : Nat) : Option Sample := (toFin? 32 i).bind fun c => (s.channels.get c).current

/-- The value of an argument, or of a channel plus the argument (R30, R35). -/
def State.argumentOf (s : State) (e : ActionEntry) (fromChannel : Bool) : Option Ext :=
  if fromChannel then (s.currentOf e.aux).map fun m => m.extended + e.argument else some e.argument

/-- PATCH (R30, R110). -/
def actPatch (e : ActionEntry) (s : State) : Option State :=
  match toFin? 16 e.target, s.argumentOf e (e.mode == 1) with
  | some i, some v =>
    let hold := (s.banks.active.patches.get i).hold
    let p := s.patches.get i
    let s1 := s.withPatches (s.patches.set i (p.arm hold (v.truncate 32)))
    some (if p.armed && !hold then s1.bump .patchOverrun else s1)
  | _, _ => none

/-- UNPATCH (R31, R111). -/
def actUnpatch (e : ActionEntry) (s : State) : Option State :=
  (toFin? 16 e.target).map fun i => s.withPatches (s.patches.modify i fun p => { p with armed := false })

/-- CAPTURE (R32). -/
def actCapture (t : Fin 48) (e : ActionEntry) (s : State) : Option State :=
  (toFin? 32 e.target).map fun c => s.offerRecord s.burstStamp (.capture t c (s.channels.get c).value)

/-- MARK (R33). -/
def actMark (t : Fin 48) (e : ActionEntry) (s : State) : Option State :=
  some (s.offerRecord s.burstStamp (.mark t e.aux e.argument))

/-- The new value of a threshold (Figure 2-4); modes 3 to 5 are those of B. -/
def State.thresholdValue (s : State) (e : ActionEntry) (w : WatchRt) : Option Ext :=
  let old := if 3 ≤ e.mode then w.b else w.a
  if e.mode % 3 = 1 then some (old + e.argument) else s.argumentOf e (e.mode % 3 == 2)

/-- A watch whose threshold has been loaded is evaluated, and its edge is a derived event; an UNKNOWN one is not (R52, R53). -/
def State.reevaluate (s : State) (i : Fin 64) (w : WatchRt) : State :=
  let e := s.banks.active.watches.get i
  match w.truth, (s.channels.get e.channel).current with
  | .unknown, _ | _, none => s.withWatches (s.watches.set i w)
  | _, some m =>
    let w' := w.evaluate e m
    let s1 := s.withWatches (s.watches.set i w')
    match edgeOf w.truth w'.truth with
    | some rise => s1.derive (.watch i rise)
    | none => s1

/-- THRESHOLD (R35, R52, R53). -/
def actThreshold (e : ActionEntry) (s : State) : Option State :=
  match toFin? 64 e.target with
  | none => none
  | some i =>
    let w := s.watches.get i
    match s.thresholdValue e w with
    | none => none
    | some v =>
      let w' := w.load (3 ≤ e.mode) v
      if w'.windowOk (s.banks.active.watches.get i) then some (s.reevaluate i w') else none

/-- REBASE (R36, R55, R74, R89). -/
def actRebase (e : ActionEntry) (s : State) : Option State :=
  match toFin? 32 e.target with
  | none => none
  | some c =>
    (s.channels.get c).current.map fun m =>
      let s1 := s.withChannels (s.channels.modify c (ChannelRt.rebase e.argument))
      (s1.shiftTrains c (e.argument - m.extended)).primeWatches c

/-- TRAIN_START (R37, R83, R84). -/
def actTrainStart (e : ActionEntry) (s : State) : Option State :=
  match toFin? 8 e.target with
  | none => none
  | some k =>
    let te := s.banks.active.trains.get k
    (s.channels.get te.channel).current.map fun m =>
      (s.withTrains (s.trains.modify k (TrainRt.start te m.extended))).derive (.trainStart k)

/-- TRAIN_STOP (R38, R85). -/
def actTrainStop (e : ActionEntry) (s : State) : Option State :=
  (toFin? 8 e.target).map fun k =>
    let s1 := s.withTrains (s.trains.modify k TrainRt.stop)
    if (s.trains.get k).stopEnds then s1.derive (.trainEnd k) else s1

/-- TIMER_START (R39, R94). -/
def actTimerStart (e : ActionEntry) (s : State) : Option State :=
  (toFin? 4 e.target).map fun k => s.withTimers (s.timers.set k { running := true, elapsed := 0 })

/-- TIMER_STOP (R40, R94). -/
def actTimerStop (e : ActionEntry) (s : State) : Option State :=
  (toFin? 4 e.target).map fun k => s.withTimers (s.timers.modify k TimerRt.halt)

/-- TIMER_CAPTURE (R34). -/
def actTimerCapture (t : Fin 48) (e : ActionEntry) (s : State) : Option State :=
  (toFin? 4 e.target).map fun k =>
    s.offerRecord s.burstStamp (.timer t k (s.timers.get k).elapsed (s.timers.get k).running)

/-- ENABLE and DISABLE (R15, R41). -/
def actArm (armed : Bool) (e : ActionEntry) (s : State) : Option State :=
  (toFin? 48 e.target).map fun k => s.withTriggers (s.triggers.modify k fun r => { r with armed := armed })

/-- An action that acts on behalf of trigger `t` (R25, Figure 2-2). -/
def act (t : Fin 48) (e : ActionEntry) (s : State) : Option State :=
  match e.kind with
  | .pulse => actPulse e s
  | .level => actLevel e s
  | .patch => actPatch e s
  | .unpatch => actUnpatch e s
  | .capture => actCapture t e s
  | .mark => actMark t e s
  | .threshold => actThreshold e s
  | .rebase => actRebase e s
  | .trainStart => actTrainStart e s
  | .trainStop => actTrainStop e s
  | .timerStart => actTimerStart e s
  | .timerStop => actTimerStop e s
  | .timerCapture => actTimerCapture t e s
  | .enable => actArm true e s
  | .disable => actArm false e s

/-- The action at index `i` of the ACTIVE store, run on behalf of trigger `t`; a refused one is counted (R12, R26). -/
def State.runAction (s : State) (t : Fin 48) (i : Nat) : State :=
  match (s.banks.active.actions.get? i).bind fun e => act t e s with
  | some s' => s'
  | none => s.bump .actionRefused

end Sys2Proof.Machine
end

