-- ==== Sys2Proof/Machine/Executor.lean ====
section
/-! DEFINITION. The Firing Executor: one step of a burst at a time (R11 to R14, R17, R18), the end of a burst (R8, R112, R145,
R146), and a burst run to its end. -/

namespace Sys2Proof.Machine

/-- The state with the burst in progress replaced. -/
def State.putBurst (s : State) (b : Burst) : State := s.withBurst (some b)

/-- A trigger's bookkeeping at completion: fire count, last fire stamp, ONCE (R1, R12, R13). -/
def TriggerRt.complete (e : TriggerEntry) (st : Stamp) (r : TriggerRt) : TriggerRt :=
  { r with fires := satInc max32 r.fires, lastFire := some st, armed := r.armed && !e.once }

/-- A firing of trigger `t` completes; its FIRE record is offered when its entry asks for one (R12 to R14). -/
def State.completeFiring (s : State) (t : Fin 48) (leader : Entry) (ledBy : Option (Fin 48)) : State :=
  let e := s.banks.active.triggers.get t
  let s1 := s.withTriggers (s.triggers.modify t (TriggerRt.complete e s.burstStamp))
  if e.report then s1.offerRecord s1.burstStamp (.fire t leader.kind leader.index ledBy) else s1

/-- A firing begins with trigger `e.trigger` as leader (R12). -/
def startFiring (t : TriggerEntry) (e : Entry) : Firing :=
  { leader := e, member := none, next := t.first, left := t.count, joins := t.joins }

/-- The entry at the head of the pending list is taken (R11). -/
def State.takeEntry (s : State) (b : Burst) (e : Entry) (rest : List Entry) : State :=
  let s1 := s.putBurst { b with pending := rest }
  if b.fired.getLsbD e.trigger then s1.countMerged e.trigger 1
  else if s.engine = .running ∧ (s.triggers.get e.trigger).armed then
    s.putBurst { b with pending := rest, fired := b.fired ||| BitVec.twoPow 48 e.trigger
                        firing := some (startFiring (s.banks.active.triggers.get e.trigger) e) }
  else s1

/-- A member of the join list is examined (R13). -/
def State.examineMember (s : State) (b : Burst) (f : Firing) (m : Fin 48) (rest : List (Fin 48)) : State :=
  let passed := s.putBurst { b with firing := some { f with joins := rest } }
  if b.fired.getLsbD m then passed.countMerged m 1
  else if (s.triggers.get m).armed then
    let e := s.banks.active.triggers.get m
    s.putBurst { b with fired := b.fired ||| BitVec.twoPow 48 m
                        firing := some { f with member := some m, next := e.first, left := e.count, joins := rest } }
  else passed

/-- The trigger on whose behalf the list in hand runs (R25). -/
def Firing.actor (f : Firing) : Fin 48 := f.member.getD f.leader.trigger

/-- One step of the firing in hand: its next action, the completion of the member whose list has run, the next member, or the
leader's completion (R12, R13). -/
def State.stepFiring (s : State) (b : Burst) (f : Firing) : State :=
  match f.left with
  | n + 1 => (s.putBurst { b with firing := some { f with next := f.next + 1, left := n } }).runAction f.actor f.next
  | 0 =>
    match f.member, f.joins with
    | some m, _ =>
      (s.putBurst { b with firing := some { f with member := none } }).completeFiring m f.leader (some f.leader.trigger)
    | none, m :: rest => s.examineMember b f m rest
    | none, [] => (s.putBurst { b with firing := none }).completeFiring f.leader.trigger f.leader none

/-- The Agent's request that waited for a swap is finished (R146). -/
def State.finishHeld (s : State) : State :=
  match s.agent.hold with
  | some q => if q.kind? = some 0x06#8 then finishCommit q s.unhold else s
  | none => s

/-- The end of a burst: patches and release of its frame, then the swap it carries or that waits for it (R8, R112, R145,
R146). -/
def State.endBurst (s : State) (b : Burst) : State :=
  let s1 := match b.frame with | some id => s.patchAndRelease id | none => s
  let s2 := s1.withBurst none
  let s3 := if b.carriesSwap && s2.banks.commitPending then s2.swap else s2
  s3.finishHeld

/-- The claim of a waiting request, by its kind (R17, R22, R151, R155 to R157). -/
def claimOf (kind : Byte) : Option (Request → State → State) :=
  match kind.toNat with
  | 0x08 => some takeRun
  | 0x09 => some takeStop
  | 0x0A => some takeReset
  | 0x0B => some takeClear
  | 0x0C => some takeEnable
  | 0x0D => some takeDisable
  | 0x0F => some answerRuntime
  | _ => none

/-- The waiting request's claim is taken (R17). -/
def State.takeHeld (s : State) : State :=
  match s.agent.hold with
  | some q => match (q.kind?.bind claimOf) with | some take => take q s.unhold | none => s
  | none => s

/-- Between two firings, and when no burst is in progress, the claims that wait are taken (R17, R173, log 22). They are taken too
before the first entry, after the last firing and after an interruption, ahead of the end-of-burst work: the model's choice,
log 26. -/
def State.serveClaims (s : State) : State :=
  if s.midFiring then s
  else if s.agent.stopClaim && s.agent.hold.isSome then s.withStopClaim State.takeHeld
  else s.takeStopClaim.takeHeld

/-- One step of the burst in progress, without the claims that may follow; when the engine leaves RUNNING in a firing, the
cleanup follows (R18, R27). -/
def State.burstWork (s : State) : State :=
  match s.burst with
  | none => s
  | some b =>
    match b.firing, b.pending with
    | some f, _ => settle s (s.stepFiring b f)
    | none, e :: rest => s.takeEntry b e rest
    | none, [] => s.endBurst b

/-- One step of the burst in progress (R11 to R18). -/
def State.burstStep (s : State) : State := s.burstWork.serveClaims

/-- The burst in progress run to its end, in at most `n` steps; with fewer it stays in progress. -/
def State.runBurst : Nat → State → State
  | 0, s => s
  | n + 1, s => if s.burst.isSome then s.burstStep.runBurst n else s

/-- More steps than a burst can take: at most 48 firings of at most 16 actions, each appending at most 48 entries (log 10). -/
def burstFuel : Nat := 65536

/-- A burst begins. -/
def beginBurst (s : State) (st : Stamp) (frame : Option Nat) (carries : Bool) : State :=
  s.putBurst { stamp := st, frame := frame, carriesSwap := carries, pending := [], fired := 0#48, firing := none }

/-- The things a TAKE_* command has produced are entered when the engine is RUNNING, and the burst is run as far as the command
says (R8, R9; log 10). -/
def State.fireAll (s : State) (m : BurstMode) (enter : State → State) : State :=
  let s1 := if s.engine = .running then enter s else s
  match m with
  | .whole => s1.runBurst burstFuel
  | .stepwise => s1

end Sys2Proof.Machine
end

