-- ==== Sys2Proof/Machine/Takes.lean ====
section
/-! DEFINITION. The Trigger Unit takes the event at the head of the Intake Queue (R8, Figure 1-5). A command acts when no burst is
in progress and the head is an event of its kind, and leaves the state as it is otherwise (log 1). -/

namespace Sys2Proof.Machine

/-- The edges between the watches before and after an evaluation, in ascending watch index (R49, R50). -/
def watchEdges (before after : Tab WatchRt 64) : Products :=
  (List.finRange 64).filterMap fun i =>
    (edgeOf (before.get i).truth (after.get i).truth).map fun rise => (.watch i rise, 1)

/-- The work of a FRAME event: channels, then watches, then trains; nothing but a count for a duplicate sample (R8, R50, R61 to
R64, R86). -/
def State.sampleFrame (s : State) (id : Nat) (station : Byte) : State × Products :=
  match s.forward.find id with
  | none => (s, [])
  | some b =>
    if s.isDuplicate station b.ordinal then (s.bump .duplicateSample, [])
    else
      let on := s.takesSample b.bytes station
      let s1 := s.updateChannels b.bytes station b.ordinal
      let s2 := s1.evaluateWatches on
      let r := s2.evaluateTrains on
      (r.1, watchEdges s1.watches s2.watches ++ r.2)

/-- TAKE_FRAME_EVENT (R8). -/
def execTakeFrameEvent (m : BurstMode) (s : State) : Result :=
  match s.burst, s.intake with
  | none, .frame id station st :: rest =>
    let r := (beginBurst (s.withIntake rest) st (some id) false).sampleFrame id station
    .next (r.1.fireAll m fun s => s.addProducts r.2)
  | _, _ => .next s

/-- TAKE_INPUT_EDGE (R8). -/
def execTakeInputEdge (m : BurstMode) (s : State) : Result :=
  match s.burst, s.intake with
  | none, .inputEdge k rise levels st :: rest =>
    .next ((beginBurst (s.withIntake rest) st none false).fireAll m fun s => s.derive (.input k rise levels))
  | _, _ => .next s

/-- TAKE_TIMER_EXPIRY (R8). -/
def execTakeTimerExpiry (m : BurstMode) (s : State) : Result :=
  match s.burst, s.intake with
  | none, .timerExpiry k st :: rest =>
    .next ((beginBurst (s.withIntake rest) st none false).fireAll m fun s => s.derive (.timer k))
  | _, _ => .next s

/-- TAKE_CYCLE_START (R8). -/
def execTakeCycleStart (m : BurstMode) (s : State) : Result :=
  match s.burst, s.intake with
  | none, .cycleStart n st :: rest =>
    .next ((beginBurst (s.withIntake rest) st none false).fireAll m fun s => s.derive (.cycleStart n))
  | _, _ => .next s

/-- TAKE_CYCLE_CLOSE: miss accounting; the burst carries the swap of a commit that is PENDING now (R8, R71, R145). -/
def execTakeCycleClose (m : BurstMode) (s : State) : Result :=
  match s.burst, s.intake with
  | none, .cycleClose st :: rest =>
    let r := (beginBurst (s.withIntake rest) st none s.banks.commitPending).settleChannels
      fun e c => c.close e.missLimit
    .next (r.1.fireAll m fun s => s.addProducts r.2)
  | _, _ => .next s

/-- TAKE_CYCLE_LOST (R8, R73). -/
def execTakeCycleLost (m : BurstMode) (s : State) : Result :=
  match s.burst, s.intake with
  | none, .cycleLost st :: rest =>
    let r := (beginBurst (s.withIntake rest) st none false).settleChannels fun _ c => c.lose
    .next (r.1.fireAll m fun s => s.addProducts r.2)
  | _, _ => .next s

/-- TAKE_FIRE_REQUEST (R8, R16). -/
def execTakeFireRequest (m : BurstMode) (s : State) : Result :=
  match s.burst, s.intake with
  | none, .fireRequest members st :: rest =>
    .next ((beginBurst (s.withIntake rest) st none false).fireAll m fun s => s.addNamed members)
  | _, _ => .next s

end Sys2Proof.Machine
end

