-- ==== Sys2Proof/Machine/Tracker.lean ====
section
/-! DEFINITION. The Cycle Tracker (R184 to R187) and what its closes advance (R130, R171). -/

namespace Sys2Proof.Machine

/-- The ordinal after `n` more cycles; past its greatest value it is free (R184, log 6). -/
def State.ordinalPlus (s : State) (n : Nat) : BitVec 48 :=
  let v := s.tracker.ordinal.toNat + n
  if v < 2 ^ 48 then BitVec.ofNat 48 v else Config.ordinalPast s.freeIdx

/-- The tracker's timeout of 1.25 periods, in nanoseconds, for a period in microseconds (R184). -/
def timeoutNs (period : Nat) : Nat := 1250 * period

/-- The report timer rises at a close; at the report timeout the timeout is to come (R130, log 5). -/
def Report.countClose (limit : Nat) (r : Report) : Report :=
  if r.timer.running then
    let n := satInc 255 r.timer.count
    { r with timer := ⟨true, n⟩, timeoutDue := r.timeoutDue || decide (limit ≤ n) }
  else r

/-- What a close advances: the report timer and the session lease (R130, R171, R186). -/
def State.advanceClose (s : State) : State :=
  let settings := s.banks.active.settings
  let s1 := s.withReport (s.report.countClose settings.reportTimeout)
  s1.withAgent { s1.agent with session := s1.agent.session.map (Session.countClose settings.lease) }

/-- The PROCESS segment ends: the OPEN segment begins with the budget in force, and a CYCLE_CLOSE event is produced (R183,
R186). -/
def State.closeSegment (s : State) : State :=
  let s1 := s.withTracker { s.tracker with state := .locked .openSeg }
  let s2 := s1.withLink { s1.link with budget := s1.banks.active.settings.insertionBudget, inserted := 0 }
  (s2.offerCycle (.cycleClose s2.stampNow)).advanceClose

/-- A close that the tracker implies (R186). -/
def State.impliedClose (s : State) : State := (s.bump .impliedClose).closeSegment

/-- A Cycle Close given to the tracker (R186). -/
def State.takeClose (s : State) (number : BitVec 16) : State :=
  match s.tracker.state with
  | .locked .process =>
    let mismatch := match s.tracker.ref with | some r => r.number != number | none => true
    (if mismatch then s.bump .closeMismatch else s).closeSegment
  | .locked .openSeg => s.bump .extraClose
  | _ => s

/-- The tracker takes a Start: number, period, timeout and stamp clock (R184, R185). -/
def State.startAs (s : State) (state : TrackerState) (ordinal : BitVec 48) (number : BitVec 16) (period : Nat) : State :=
  s.withTracker { state := state, ref := some ⟨number, period⟩, ordinal := ordinal
                  timeoutAt := some (s.now + timeoutNs period), stampCycle := number, stampFrom := s.now }

/-- The CYCLE_START event of a Start taken in LOCKED, at offset 0 (R4, R185). -/
def State.startEvent (s : State) (number : BitVec 16) : State := s.offerCycle (.cycleStart number ⟨number, 0⟩)

/-- A Start in LOCKED or MISSING whose number is not `ahead` past the recorded one slips; a changed period is counted (R185). -/
def State.countStart (s : State) (ahead : BitVec 16) (number : BitVec 16) (period : Nat) : State :=
  match s.tracker.ref with
  | none => s
  | some r =>
    let s1 := if number = r.number + ahead then s else s.bump .cycleSlip
    if period = r.period then s1 else s1.bump .periodChange

/-- A Start that begins a new PROCESS segment, `n` ordinals on (R185). -/
def State.startCycle (s : State) (n : Nat) (number : BitVec 16) (period : Nat) : State :=
  let s1 := s.countStart (BitVec.ofNat 16 n) number period
  let s2 := s1.startAs (.locked .process) (s1.ordinalPlus n) number period
  (if s1.tracker.ordinal.toNat + n < 2 ^ 48 then s2 else s2.spend).startEvent number

/-- A Cycle Start given to the tracker (R185, Figure 12-3). An implied close is stamped before the stamp clock restarts
(log 12). -/
def State.takeStart (s : State) (number : BitVec 16) (period : Nat) : State :=
  match s.tracker.state with
  | .unlocked | .lost => s.startAs .acquiring s.tracker.ordinal number period
  | .acquiring =>
    if s.tracker.ref = some ⟨number - 1#16, period⟩ then
      (s.startAs (.locked .process) 0#48 number period).startEvent number
    else s.startAs .acquiring s.tracker.ordinal number period
  | .locked .openSeg => s.startCycle 1 number period
  | .locked .process => s.impliedClose.startCycle 1 number period
  | .missing => s.startCycle 2 number period

/-- The tracker enters LOST (R187). -/
def State.enterLost (s : State) (detail : Nat) : State :=
  let s1 := s.withTracker { s.tracker with state := .lost, timeoutAt := none }
  (s1.offerCycle (.cycleLost s1.stampNow)).raiseFault cycleLost detail

/-- The tracker in UNLOCKED, keeping no number or period (R178, R187, log 13). -/
def State.unlockTracker (s : State) : State :=
  s.withTracker { s.tracker with state := .unlocked, ref := none, timeoutAt := none }

/-- The tracker in MISSING, its timeout restarted at the expiry (R184, R187). -/
def State.enterMissing (s : State) (at_ : Nat) : State :=
  let period := match s.tracker.ref with | some r => r.period | none => 0
  s.withTracker { s.tracker with state := .missing, timeoutAt := some (at_ + timeoutNs period) }

/-- The timeout that was set for the moment `at_` expires (R187). -/
def State.trackerExpires (s : State) (at_ : Nat) : State :=
  match s.tracker.state with
  | .acquiring => s.unlockTracker
  | .locked .process => s.impliedClose.enterMissing at_
  | .locked .openSeg => s.enterMissing at_
  | .missing => s.enterLost 1
  | .unlocked | .lost => s

/-- Whether the tracker's timeout has been reached. -/
def State.trackerDue (s : State) : Option Nat :=
  match s.tracker.timeoutAt with
  | some t => if t ≤ s.now then some t else none
  | none => none

/-- The tracker is told that the Inbound port left UP (R178, R187). -/
def State.trackerLosesLink (s : State) : State :=
  match s.tracker.state with
  | .locked _ | .missing => s.enterLost 2
  | .acquiring => s.unlockTracker
  | .unlocked | .lost => s

end Sys2Proof.Machine
end

