-- ==== Sys2Proof/Machine/Link.lean ====
section
/-! DEFINITION. The line link: ports, received frames, the Forward Buffer's release and insertion (R177 to R183). A command whose
occurrence the state does not give leaves the state as it is (log 1). -/

namespace Sys2Proof.Machine

/-- The part has a station address (R164). -/
def State.addressed (s : State) : Bool := s.link.address != 0#8 && s.link.address != 255#8

/-- The state with a port replaced. -/
def State.withPort (s : State) (p : Port) (r : PortRt) : State :=
  match p with
  | .inbound => s.withLink { s.link with inbound := r }
  | .outbound => s.withLink { s.link with outbound := r }

/-- A port of the part. -/
def State.port (s : State) (p : Port) : PortRt :=
  match p with
  | .inbound => s.link.inbound
  | .outbound => s.link.outbound

/-- What follows when a port has left UP: the faults and the tracker's loss inbound, with the cause's detail (R178); the frame
being sent is lost outbound (R177). -/
def State.portLeft (s : State) (p : Port) (detail : Nat) : State :=
  match p with
  | .inbound => (s.raiseFault linkDown detail).trackerLosesLink
  | .outbound => s.withLink { s.link with sending := none }

/-- `n` good line words after the bad ones of an UP port: a bad word counts while fewer than 64 have followed it (R177). -/
def PortRt.age (n : Nat) (r : PortRt) : PortRt := { r with badAges := (r.badAges.map (· + n)).filter (· < 64) }

/-- A port after the `n` words of a frame, a delimiter and data words among them (R177, log 20). -/
def PortRt.hear (n : Nat) (r : PortRt) : PortRt :=
  match r.state with
  | .down => r
  | .aligning => { r with idleRun := 0 }
  | .up => r.age n

/-- A port after one line word (R177). -/
def PortRt.receive (r : PortRt) (w : LineWord) : PortRt :=
  match r.state with
  | .down => r
  | .aligning =>
    if w = .idle then (if r.idleRun + 1 = 16 then { state := .up } else { r with idleRun := r.idleRun + 1 })
    else { r with idleRun := 0 }
  | .up =>
    let aged := r.age 1
    if w = .bad then (if 4 ≤ aged.badAges.length + 1 then {} else { aged with badAges := 0 :: aged.badAges }) else aged

/-- A port receives line words (R177, log 23); when it has been UP and leaves it, what follows does (R178). -/
def State.receiveWords (s : State) (p : Port) (words : List LineWord) : State :=
  let steps := words.foldl (fun acc w => (acc.1.receive w, acc.2 || (acc.1.state == .up && (acc.1.receive w).state == .down)))
    (s.port p, false)
  let s1 := s.withPort p steps.1
  if steps.2 then s1.portLeft p 2 else s1

/-- PORT_SIGNAL_DETECT (R177). -/
def execPortSignalDetect (p : Port) (s : State) : Result :=
  .next (if (s.port p).state = .down then s.withPort p { state := .aligning } else s)

/-- PORT_ALIGNED: the line words that an ALIGNING port receives (R177). -/
def execPortAligned (p : Port) (words : List LineWord) (s : State) : Result :=
  .next (if (s.port p).state = .aligning then s.receiveWords p words else s)

/-- PORT_SIGNAL_LOSS (R177, R178). -/
def execPortSignalLoss (p : Port) (s : State) : Result :=
  .next (match (s.port p).state with
    | .down => s
    | .aligning => s.withPort p {}
    | .up => (s.withPort p {}).portLeft p 1)

/-- PORT_BAD_WORD_LIMIT: the line words that an UP port receives (R177, R178). -/
def execPortBadWordLimit (p : Port) (words : List LineWord) (s : State) : Result :=
  .next (if (s.port p).state = .up then s.receiveWords p words else s)

/-- The words of a frame have come in at the Inbound port (R177, log 20). -/
def State.hearFrame (s : State) (f : Frame) : State := s.withPort .inbound (s.link.inbound.hear (Config.frameWords f))

/-- A frame has been received whole at an UP Inbound port, and is counted (R177, R179). -/
def State.receive (s : State) (f : Frame) : State := (s.hearFrame f).bump .framesIn

/-- A frame whose check test passes, received whole at an UP Inbound port, is counted and dealt with when it is of the command's
row (R179, R180). A port that is not UP gets its words and no frame (R177). -/
def onFrame (f : Frame) (mine : FrameView → Bool) (run : FrameView → State → State) (s : State) : State :=
  if s.link.inbound.state = .up then
    match goodFrame f with
    | some v => if mine v then run v (s.receive f) else s
    | none => s
  else s.hearFrame f

/-- A frame of the part's own that has gone round the ring (Figure 12-1). -/
def State.isOwn (s : State) (v : FrameView) : Bool :=
  s.addressed && (v.kind == kindManagement || v.kind == kindMarker) && v.source == s.link.address

/-- A request to the part (Figure 12-1). -/
def State.isRequest (s : State) (v : FrameView) : Bool :=
  s.addressed && v.kind == kindManagement && v.dest == s.link.address && !s.isOwn v

/-- A broadcast request that the part takes (Figure 12-1, log 17). -/
def State.isBroadcast (s : State) (v : FrameView) : Bool :=
  s.addressed && v.kind == kindManagement && v.dest == 255#8 && !s.isOwn v

/-- The period of a Cycle Start that is given to the tracker (Figure 12-1). -/
def startPeriod (v : FrameView) : Option Nat :=
  let p := beNat v.body
  if v.kind = kindCycleStart ∧ v.length = 2 ∧ 125 ≤ p ∧ p ≤ 65535 then some p else none

/-- Whether a Cycle Close is given to the tracker (Figure 12-1). -/
def closeGiven (v : FrameView) : Bool := v.kind == kindCycleClose && v.length == 0

/-- A frame of the last row of Figure 12-1, or of a row that gives a Start or a Close to nobody
(log 21). -/
def State.isOther (s : State) (v : FrameView) : Bool :=
  v.kind != kindProcess && !s.isOwn v && !s.isRequest v && !s.isBroadcast v && (startPeriod v).isNone && !closeGiven v

/-- CYCLE_START_FRAME (R180, R185). -/
def execCycleStartFrame (f : Frame) (s : State) : Result :=
  .next (onFrame f (fun v => v.kind == kindCycleStart) (fun v s =>
    match startPeriod v with
    | some p => s.enterAnd f fun s => s.takeStart v.cycle p
    | none => s.enter f) s)

/-- CYCLE_CLOSE_FRAME (R180, R186). -/
def execCycleCloseFrame (f : Frame) (s : State) : Result :=
  .next (onFrame f (fun v => v.kind == kindCycleClose) (fun v s =>
    if closeGiven v then s.enterAnd f fun s => s.takeClose v.cycle else s.enter f) s)

/-- The first three conditions of a usable Process frame (R181). -/
def State.timely (s : State) (v : FrameView) : Bool :=
  s.tracker.state == .locked .process
    && (match s.tracker.ref with | some r => r.number == v.cycle | none => false)
    && decide (v.length % 4 = 0 ∧ 4 ≤ v.length ∧ v.length ≤ 128)

/-- A station that a valid channel follows or a valid patch entry targets (R109). -/
def State.wanted (s : State) (station : Byte) : Bool :=
  ((List.finRange 32).any fun i => s.follows station i)
    || (List.finRange 16).any fun i =>
        (s.banks.active.patches.get i).valid && (s.banks.active.patches.get i).station == station

/-- A Process frame dealt with at its arrival (R181, R182, log 16). -/
def State.takeProcess (s : State) (f : Frame) (v : FrameView) : State :=
  if s.timely v then
    if s.wanted v.source && s.bufferRoom then
      (s.appendFrame f true).offerOrdinary (.frame s.forward.nextId v.source s.stampNow)
    else s.enter f
  else (s.bump .lateFrame).enter f

/-- PROCESS_FRAME (R181). -/
def execProcessFrame (f : Frame) (s : State) : Result :=
  .next (onFrame f (fun v => v.kind == kindProcess) (fun v s => s.takeProcess f v) s)

/-- A request arrives at the Agent (R166). -/
def State.takeRequest (s : State) (v : FrameView) : State :=
  if s.agent.inbox.length < Config.agentSize then
    s.withAgent { s.agent with inbox := s.agent.inbox ++ [⟨v.source, v.body⟩] }
  else s.bump .inboxOverflow

/-- MANAGEMENT_FRAME (R166, R180). -/
def execManagementFrame (f : Frame) (s : State) : Result := .next (onFrame f s.isRequest (fun v s => s.takeRequest v) s)

/-- Whether a broadcast request is an ENGINE_STOP that is not MALFORMED (R173). -/
def Request.isStop (q : Request) : Bool := !q.headerFault && q.kind? == some 0x09#8 && q.body == []

/-- A broadcast request (R173). -/
def State.takeBroadcast (s : State) (q : Request) : State := if q.isStop then s.broadcastStop else s.bump .broadcastIgnored

/-- BROADCAST_MANAGEMENT_FRAME (R173, R180). -/
def execBroadcastManagementFrame (f : Frame) (s : State) : Result :=
  .next (onFrame f s.isBroadcast (fun v s => s.enterAnd f fun s => s.takeBroadcast ⟨v.source, v.body⟩) s)

/-- OWN_FRAME_RETURN (R180). -/
def execOwnFrameReturn (f : Frame) (s : State) : Result := .next (onFrame f s.isOwn (fun _ s => s) s)

/-- OTHER_FRAME (R180). -/
def execOtherFrame (f : Frame) (s : State) : Result := .next (onFrame f s.isOther (fun _ s => s.enter f) s)

/-- FAILED_CHECK_FRAME (R179). -/
def execFailedCheckFrame (f : Frame) (s : State) : Result :=
  .next (
    if s.link.inbound.state = .up then (if goodFrame f = none then ((s.receive f).bump .badCheck).enter f else s)
    else s.hearFrame f)

/-- The frame being sent has gone out whole (log 14). -/
def State.finishSending (s : State) : State :=
  match s.link.sending with
  | some f => s.withLink { s.link with sending := none, sent := s.link.sent ++ [f] }
  | none => s

/-- A frame at the Outbound port: sent when it is UP, else discarded and counted (R178, R182, R183). -/
def State.transmit (s : State) (f : Frame) : State :=
  if s.link.outbound.state = .up then s.withLink { s.link with sending := some f } else s.bump .forwardDiscard

/-- FORWARD_RELEASE: the head leaves when it is releasable (R182). A frame that was still being sent has gone out by then
(log 14). -/
def execForwardRelease (s : State) : Result :=
  .next (match s.forward.frames with
    | f :: rest =>
      if f.held then s
      else (s.finishSending.withForward { s.forward with frames := rest }).transmit f.bytes
    | [] => s)

/-- Whether the forwarding side lets an insertion start (R183). -/
def State.forwardIdle (s : State) : Bool := match s.forward.frames with | f :: _ => f.held | [] => true

/-- Whether the tracker's state and the budget let an insertion start (Figure 12-2). -/
def State.mayInsert (s : State) : Bool :=
  match s.tracker.state with
  | .locked .process => false
  | .locked .openSeg => decide (s.link.inserted < s.link.budget)
  | _ => true

/-- Whether the reporter asks for a marker slot that can be granted now (R127, R183). A slot can be granted also between the close
that makes the report timeout due and the timeout, which then reverts that frame with the rest: the model's choice, log 5. -/
def State.markerDue (s : State) : Bool :=
  s.tracker.state == .locked .openSeg && s.link.outbound.state == .up && s.report.state == .active
    && s.report.records.any (·.sent.isNone) && decide (s.report.outstanding.length < Config.windowSize)

/-- An insertion counts in the OPEN segment's budget (R183). -/
def State.countInsertion (s : State) : State :=
  match s.tracker.state with
  | .locked .openSeg => s.withLink { s.link with inserted := s.link.inserted + 1 }
  | _ => s

/-- The cycle number of a frame that the part sends (R188). -/
def State.cycleNumber (s : State) : BitVec 16 := match s.tracker.ref with | some r => r.number | none => 0#16

/-- A response as a Management frame (Figure 12-6). -/
def State.responseFrame (s : State) (r : Response) : Frame :=
  buildFrame kindManagement s.link.address r.dest s.cycleNumber
    (beBytes 2 r.tag.toNat ++ [r.seq, r.kind, r.status] ++ beBytes 2 r.body.length ++ r.body)

/-- The oldest `k` PENDING records become SENT in frame `n` (R127). -/
def markSent (n : BitVec 16) : Nat → List Record → List Record
  | 0, l => l
  | _, [] => []
  | k + 1, d :: l => if d.sent.isNone then { d with sent := some n } :: markSent n k l else d :: markSent n (k + 1) l

/-- The records that the next Marker frame carries (R127). -/
def Report.nextRecords (r : Report) (perFrame : Nat) : List Record := (r.records.filter (·.sent.isNone)).take perFrame

/-- A Marker frame (Figure 12-6). -/
def State.markerFrame (s : State) : Frame :=
  let l := s.report.nextRecords s.banks.active.settings.perFrame
  buildFrame kindMarker s.link.address 0#8 s.cycleNumber
    ([s.report.epoch] ++ beBytes 2 s.report.nextFrame.toNat ++ byteOf l.length ++ l.flatMap Record.bytes)

/-- The Report Unit after a Marker frame has been built (R127, R130). -/
def Report.build (perFrame : Nat) (r : Report) : Report :=
  { r with
    records := markSent r.nextFrame perFrame r.records
    nextFrame := r.nextFrame + 1#16
    timer := if r.outstanding = [] then ⟨true, 0⟩ else r.timer }

/-- INSERTION_START: a response, else a Marker frame (R127, R183). -/
def execInsertionStart (s : State) : Result :=
  .next (
    if s.forwardIdle && s.mayInsert then
      match s.agent.responses with
      | r :: rest =>
        ((s.finishSending.withAgent { s.agent with responses := rest }).countInsertion).transmit (s.responseFrame r)
      | [] =>
        if s.markerDue then
          ((s.finishSending.withReport (s.report.build s.banks.active.settings.perFrame)).countInsertion).transmit s.markerFrame
        else s
    else s)

end Sys2Proof.Machine
end

