-- ==== Sys2Proof/Machine/Timed.lean ====
section
/-! DEFINITION. Device reset, and the events of time and of the input pins (R153, R164; R93, R97, R103, R104, R131, R171, R187). An
event that is not due leaves the state as it is (log 1). -/

namespace Sys2Proof.Machine

/-- An input line after a device reset whose pin stands at `high` (R105). -/
def InputRt.atReset (high : Bool) : InputRt := { accepted := high, pin := high, since := none }

/-- The part after a device reset with these address and input pins (R153, R164). The model's own queue and what the ring has
seen are kept (log 7). -/
def State.afterReset (s : State) (address : Byte) (tin : BitVec 4) : State :=
  { State.reset with
    link := { sent := s.link.sent, address := address }
    inputs := .ofFn fun k => .atReset (tin.getLsbD k)
    pending := s.pending
    freeIdx := s.freeIdx }

/-- DEVICE_RESET (R153). -/
def execDeviceReset (address : Byte) (tin : BitVec 4) (s : State) : Result := .next (s.afterReset address tin)

/-- TRACKER_TIMEOUT (R187). -/
def execTrackerTimeout (s : State) : Result :=
  .next (match s.trackerDue with
    | some t => s.trackerExpires t
    | none => s)

/-- A report timeout: SENT records revert, and the reporter goes on or halts (R131). -/
def State.reportTimesOut (s : State) : State :=
  let limit := s.banks.active.settings.retryLimit
  let r := s.report.revert
  let n := r.resend + 1
  if limit < n then (s.withReport { r with resend := n, state := .halted }).raiseFault reportHalt limit
  else s.withReport { r with resend := n }

/-- REPORT_TIMEOUT (R131). -/
def execReportTimeout (s : State) : Result := .next (if s.report.timeoutDue then s.reportTimesOut else s)

/-- Whether the lease has expired (R171). -/
def Agent.expiryDue (g : Agent) : Bool := match g.session with | some h => h.expiryDue | none => false

/-- SESSION_LEASE_EXPIRY (R171). -/
def execSessionLeaseExpiry (s : State) : Result :=
  .next (if s.agent.expiryDue then s.withAgent s.agent.endSession else s)

/-- Whether timer `k` stands at the start of its count within a firing. No microsecond of it has passed then, so it does not
expire, and a TIMER_CAPTURE after its TIMER_START in one list reports 0 and RUNNING (R34, log 25). -/
def State.justStarted (s : State) (k : Fin 4) : Bool := s.midFiring && decide ((s.timers.get k).elapsed = 0)

/-- TIMER_EXPIRY (R93). -/
def execTimerExpiry (k : Fin 4) (s : State) : Result :=
  .next (if s.timerDue k && !s.justStarted k then s.expireTimer k else s)

/-- PULSE_END (R97). -/
def execPulseEnd (j : Fin 8) (s : State) : Result :=
  .next (if s.pulseDue j then s.withOutputs (s.outputs.set j .endPulse) else s)

/-- INPUT_PIN_CHANGE (R103). -/
def execInputPinChange (k : Fin 4) (high : Bool) (s : State) : Result :=
  .next (s.withInputs (s.inputs.modify k (InputRt.pinTo s.now high)))

/-- INPUT_EDGE_ACCEPT (R104). -/
def execInputEdgeAccept (k : Fin 4) (s : State) : Result := .next (if s.inputDue k then s.acceptInput k else s)

/-- The microsecond counts that rise or fall without coming to their end (R93, R97). -/
def State.countMicrosecond (s : State) : State :=
  let s1 := s.withTimers (s.timers.mapIdx fun k t =>
    if (s.banks.active.timers.get k).valid && t.running && !s.timerDue k then { t with elapsed := t.elapsed + 1 } else t)
  s1.withOutputs (s1.outputs.map fun o => if 1 < o.pulse then { o with pulse := o.pulse - 1 } else o)

/-- The timer and pulse ends of a microsecond (R93, R97). -/
def State.microEvents (s : State) : List Instr :=
  ((List.finRange 4).filter s.timerDue).map .timerExpiry ++ ((List.finRange 8).filter s.pulseDue).map .pulseEnd

/-- The events that have fallen due at this moment, other than those of the microsecond counts. -/
def State.dueNow (s : State) : List Instr :=
  (match s.trackerDue with | some _ => [.trackerTimeout] | none => [])
    ++ ((List.finRange 4).filter s.inputDue).map .inputEdgeAccept
    ++ (if s.report.timeoutDue then [.reportTimeout] else [])
    ++ (if s.agent.expiryDue then [.sessionLeaseExpiry] else [])

/-- The commands are put in the queue, in an order that free values pick (log 2, log 6). -/
def State.schedule (s : State) (l : List Instr) : State :=
  if l.length ≤ 1 then s.withPending (s.pending ++ l)
  else
    let r := shuffle l.length s l
    r.1.withPending (r.1.pending ++ r.2)

/-- One nanosecond passes; at a whole microsecond the counts move, and what ends is put in the queue (log 2). -/
def State.tick (s : State) : State :=
  let s1 := s.withNow (s.now + 1)
  if s1.now % 1000 = 0 then s1.countMicrosecond.schedule (s1.microEvents ++ s1.dueNow) else s1.schedule s1.dueNow

end Sys2Proof.Machine
end

