-- ==== Sys2Proof/Machine/Dispatch.lean ====
section
/-! DEFINITION. Every command's meaning, one arm per constructor of `Instr`. -/

namespace Sys2Proof.Machine

/-- The effect of a command on everything but the queue. -/
def exec (i : Instr) (s : State) : Host.Outcome State Fault Refusal :=
  match i with
  | .deviceReset address tin => Sys2Proof.Machine.execDeviceReset address tin s
  | .portSignalDetect p => Sys2Proof.Machine.execPortSignalDetect p s
  | .portAligned p words => Sys2Proof.Machine.execPortAligned p words s
  | .portSignalLoss p => Sys2Proof.Machine.execPortSignalLoss p s
  | .portBadWordLimit p words => Sys2Proof.Machine.execPortBadWordLimit p words s
  | .cycleStartFrame f => Sys2Proof.Machine.execCycleStartFrame f s
  | .cycleCloseFrame f => Sys2Proof.Machine.execCycleCloseFrame f s
  | .processFrame f => Sys2Proof.Machine.execProcessFrame f s
  | .managementFrame f => Sys2Proof.Machine.execManagementFrame f s
  | .broadcastManagementFrame f => Sys2Proof.Machine.execBroadcastManagementFrame f s
  | .ownFrameReturn f => Sys2Proof.Machine.execOwnFrameReturn f s
  | .otherFrame f => Sys2Proof.Machine.execOtherFrame f s
  | .forwardRelease => Sys2Proof.Machine.execForwardRelease s
  | .insertionStart => Sys2Proof.Machine.execInsertionStart s
  | .trackerTimeout => Sys2Proof.Machine.execTrackerTimeout s
  | .reportTimeout => Sys2Proof.Machine.execReportTimeout s
  | .sessionLeaseExpiry => Sys2Proof.Machine.execSessionLeaseExpiry s
  | .timerExpiry k => Sys2Proof.Machine.execTimerExpiry k s
  | .pulseEnd j => Sys2Proof.Machine.execPulseEnd j s
  | .inputPinChange k high => Sys2Proof.Machine.execInputPinChange k high s
  | .inputEdgeAccept k => Sys2Proof.Machine.execInputEdgeAccept k s
  | .takeFrameEvent m => Sys2Proof.Machine.execTakeFrameEvent m s
  | .takeInputEdge m => Sys2Proof.Machine.execTakeInputEdge m s
  | .takeTimerExpiry m => Sys2Proof.Machine.execTakeTimerExpiry m s
  | .takeCycleStart m => Sys2Proof.Machine.execTakeCycleStart m s
  | .takeCycleClose m => Sys2Proof.Machine.execTakeCycleClose m s
  | .takeCycleLost m => Sys2Proof.Machine.execTakeCycleLost m s
  | .takeFireRequest m => Sys2Proof.Machine.execTakeFireRequest m s
  | .sessionOpen => Sys2Proof.Machine.execSessionOpen s
  | .sessionClose => Sys2Proof.Machine.execSessionClose s
  | .statusRead => Sys2Proof.Machine.execStatusRead s
  | .tableWrite => Sys2Proof.Machine.execTableWrite s
  | .tableRead => Sys2Proof.Machine.execTableRead s
  | .commit => Sys2Proof.Machine.execCommit s
  | .commitAbort => Sys2Proof.Machine.execCommitAbort s
  | .engineRun => Sys2Proof.Machine.execEngineRun s
  | .engineStop => Sys2Proof.Machine.execEngineStop s
  | .engineReset => Sys2Proof.Machine.execEngineReset s
  | .configClear => Sys2Proof.Machine.execConfigClear s
  | .triggerEnable => Sys2Proof.Machine.execTriggerEnable s
  | .triggerDisable => Sys2Proof.Machine.execTriggerDisable s
  | .triggerFire => Sys2Proof.Machine.execTriggerFire s
  | .runtimeRead => Sys2Proof.Machine.execRuntimeRead s
  | .reportAck => Sys2Proof.Machine.execReportAck s
  | .reportRead => Sys2Proof.Machine.execReportRead s
  | .reportResume => Sys2Proof.Machine.execReportResume s
  | .faultRead => Sys2Proof.Machine.execFaultRead s
  | .faultClear => Sys2Proof.Machine.execFaultClear s
  | .counterRead => Sys2Proof.Machine.execCounterRead s
  | .counterReadClear => Sys2Proof.Machine.execCounterReadClear s
  | .failedCheckFrame f => Sys2Proof.Machine.execFailedCheckFrame f s

end Sys2Proof.Machine
end

