-- ==== Sys2Proof/Machine/Step.lean ====
section
/-! DEFINITION. One step: the command at the front of the queue, or the part left alone. -/

namespace Sys2Proof.Machine

/-- The command that takes the event at the head of the Intake Queue, run a step at a time (R8). -/
def takeCommand : Event → Instr
  | .frame .. => .takeFrameEvent .stepwise
  | .inputEdge .. => .takeInputEdge .stepwise
  | .timerExpiry .. => .takeTimerExpiry .stepwise
  | .cycleStart .. => .takeCycleStart .stepwise
  | .cycleClose .. => .takeCycleClose .stepwise
  | .cycleLost .. => .takeCycleLost .stepwise
  | .fireRequest .. => .takeFireRequest .stepwise

/-- The command that takes a request, by its kind; a request without a known kind is taken by any (Figure 11-1). -/
def requestCommand (q : Request) : Instr :=
  match (q.kind?.map BitVec.toNat).getD 0 with
  | 0x01 => .sessionOpen
  | 0x02 => .sessionClose
  | 0x03 => .statusRead
  | 0x04 => .tableWrite
  | 0x05 => .tableRead
  | 0x06 => .commit
  | 0x07 => .commitAbort
  | 0x08 => .engineRun
  | 0x09 => .engineStop
  | 0x0A => .engineReset
  | 0x0B => .configClear
  | 0x0C => .triggerEnable
  | 0x0D => .triggerDisable
  | 0x0E => .triggerFire
  | 0x0F => .runtimeRead
  | 0x10 => .reportAck
  | 0x11 => .reportRead
  | 0x12 => .reportResume
  | 0x13 => .faultRead
  | 0x14 => .faultClear
  | 0x15 => if asksClear q then .counterReadClear else .counterRead
  | _ => .statusRead

/-- What the part can do of itself: a command of its own blocks, a step of the burst in progress, the end of a sending, or a
nanosecond that passes. -/
inductive Activity where
  | command (c : Instr)
  | burst
  | sent
  | time
  deriving DecidableEq, Repr

/-- Whether an insertion would start (R183). -/
def State.insertionDue (s : State) : Bool := s.forwardIdle && s.mayInsert && (!s.agent.responses.isEmpty || s.markerDue)

/-- Whether the head of the Forward Buffer is releasable (R182). -/
def State.releaseDue (s : State) : Bool := match s.forward.frames with | f :: _ => !f.held | [] => false

/-- What the Trigger Unit, the Agent and the Outbound port can do now. -/
def State.work (s : State) : List Activity :=
  (if s.burst.isSome then [.burst] else (s.intake.head?.map fun e => Activity.command (takeCommand e)).toList)
    ++ (if s.agent.hold.isNone && decide (s.agent.responses.length < Config.agentSize) then
          (s.agent.inbox.head?.map fun q => Activity.command (requestCommand q)).toList else [])
    ++ (if s.link.sending.isSome then [.sent]
        else (if s.releaseDue then [.command .forwardRelease] else []) ++
          (if s.insertionDue then [.command .insertionStart] else []))

/-- What the clock can do next: what is due happens, and time passes only when nothing is due. While a firing is in hand no time
passes, so that a TIMER_CAPTURE after a TIMER_START in one list reports 0 and RUNNING (R34, log 2). -/
def State.clockWork (s : State) : List Activity :=
  if s.dueNow.isEmpty then (if s.midFiring then [] else [.time]) else s.dueNow.map .command

/-- What can happen next (log 2). -/
def State.activities (s : State) : List Activity := s.work ++ s.clockWork

/-- An activity carried out. -/
def Activity.perform (a : Activity) (s : State) : Host.Outcome State Fault Refusal :=
  match a with
  | .command c => exec c s
  | .burst => .next s.burstStep
  | .sent => .next s.finishSending
  | .time => .next s.tick

/-- The part left alone: one of its activities, picked by a free value when there are several (log 2, log 6). -/
def State.idle (s : State) : Host.Outcome State Fault Refusal :=
  match s.activities with
  | [] => .next s
  | [a] => a.perform s
  | l => (l.getD (s.pickBelow l.length) .time).perform s.spend

/-- One step: the command at the front of the queue is executed on the state with the queue's rest; on an empty queue the part is
left alone (log 2). -/
def step (s : State) : Host.Outcome State Fault Refusal :=
  match s.pending with
  | [] => s.idle
  | c :: rest => exec c (s.withPending rest)

/-- The command that a word spells put at the front of the queue (log 15); no word spells one. -/
def State.withFetchWord (s : State) (nbits w : Nat) : State :=
  match decodeTableWord nbits w with
  | some c => s.withPending (c :: s.pending)
  | none => s

end Sys2Proof.Machine
end

