-- ==== Sys2Proof/Safety.lean ====
section
/-! DEFINITION. What the statements speak of: requests that the Agent can take, what the Agent is after it has answered one, and
the properties that every step keeps. -/

namespace Sys2Proof.Machine

/-- The request `q` of kind `kind` stands at the head of the Inbox, can be taken, has no header fault and is no duplicate (R167,
R172). -/
structure State.Ready (s : State) (q : Request) (rest : List Request) (kind : Byte) : Prop where
  head : s.agent.inbox = q :: rest
  free : s.agent.hold = none
  room : s.agent.responses.length < 4
  sound : q.headerFault = false
  kind : q.kind? = some kind
  fresh : s.agent.isHolder q = true → s.agent.duplicate q = none

/-- A request that the holder of the session makes (R168). -/
structure State.ReadyHeld (s : State) (q : Request) (rest : List Request) (kind : Byte) : Prop extends s.Ready q rest kind where
  held : s.agent.isHolder q = true

/-- The Agent after it has answered the holder's request with `r`: lease restarted, an expiry that was due not coming (log 5),
response placed and cached (R167, R171, R172). -/
def Agent.servedHolder (g : Agent) (rest : List Request) (r : Response) : Agent :=
  { g with inbox := rest, session := g.session.map Session.restart, responses := g.responses ++ [r], cache := some ⟨r.seq, r⟩ }

/-- The Agent after it has answered an open read with `r`: the lease is not restarted, and the response is cached for the holder
alone (R167, R171, R172). -/
def Agent.servedOpen (g : Agent) (q : Request) (rest : List Request) (r : Response) : Agent :=
  { g with inbox := rest, responses := g.responses ++ [r], cache := if g.isHolder q then some ⟨r.seq, r⟩ else g.cache }

/-- A claim is taken at once and alone: no firing is in hand, and no broadcast stop waits (R17, R173). -/
structure State.ClaimFree (s : State) : Prop where
  between : s.midFiring = false
  alone : s.agent.stopClaim = false

/-- The request rows that need the session, by kind; of the two COUNTER_READ rows the one with clear yes (Figure 11-1, R163). -/
def sessionRows : List (Instr × Byte) :=
  [(.sessionClose, 0x02#8), (.tableWrite, 0x04#8), (.commit, 0x06#8), (.commitAbort, 0x07#8), (.engineRun, 0x08#8),
   (.engineStop, 0x09#8), (.engineReset, 0x0A#8), (.configClear, 0x0B#8), (.triggerEnable, 0x0C#8), (.triggerDisable, 0x0D#8),
   (.triggerFire, 0x0E#8), (.reportAck, 0x10#8), (.reportRead, 0x11#8), (.reportResume, 0x12#8), (.faultClear, 0x14#8),
   (.counterReadClear, 0x15#8)]

/-- The request rows that need no session, by kind (Figure 11-1). -/
def openRows : List (Instr × Byte) :=
  [(.sessionOpen, 0x01#8), (.statusRead, 0x03#8), (.tableRead, 0x05#8), (.runtimeRead, 0x0F#8), (.faultRead, 0x13#8),
   (.counterRead, 0x15#8)]

/-- A request of the kind of row `c` is of that row: a COUNTER_READ is of the row that its body asks for (R163, log 8). -/
def Request.fits (q : Request) (c : Instr) : Prop :=
  (c = .counterReadClear → asksClear q = true) ∧ (c = .counterRead → asksClear q = false)

/-- A broadcast stop or a request that waits, waits on a burst in progress; the request is of a kind that a rule lets wait (R17,
R22, R146, R151, R167, R173). -/
structure State.WaitsOnBurst (s : State) : Prop where
  stop : s.agent.stopClaim = true → s.burst.isSome = true
  hold : ∀ q, s.agent.hold = some q → s.burst.isSome = true
    ∧ ∃ k ∈ [0x06#8, 0x08#8, 0x09#8, 0x0A#8, 0x0B#8, 0x0C#8, 0x0D#8, 0x0F#8], q.kind? = some k

/-- The command that takes an event, in a given mode (R8). -/
def takeIn (m : BurstMode) : Event → Instr
  | .frame .. => .takeFrameEvent m
  | .inputEdge .. => .takeInputEdge m
  | .timerExpiry .. => .takeTimerExpiry m
  | .cycleStart .. => .takeCycleStart m
  | .cycleClose .. => .takeCycleClose m
  | .cycleLost .. => .takeCycleLost m
  | .fireRequest .. => .takeFireRequest m

/-- The one thing that an event of its kind is, where it is one (R9). -/
def Event.thing? : Event → Option Thing
  | .inputEdge k rise levels _ => some (.input k rise levels)
  | .timerExpiry k _ => some (.timer k)
  | .cycleStart n _ => some (.cycleStart n)
  | .frame .. | .cycleClose .. | .cycleLost .. | .fireRequest .. => none

/-- How many divisions train `k` emits at the FRAME event of a buffered frame of a station (R80, R86). -/
def State.divisionsAt (s : State) (b : BufFrame) (station : Byte) (k : Fin 8) : Nat :=
  let e := s.banks.active.trains.get k
  match slotAt b.bytes (s.banks.active.channels.get e.channel).slot with
  | some raw =>
    if e.valid && s.follows station e.channel then
      ((s.trains.get k).evaluate e (nextSample (s.banks.active.channels.get e.channel).kind (s.channels.get e.channel).value raw
        b.ordinal).extended).divisions
    else 0
  | none => 0

/-- The things that the work of a taken event produces between the states `s` and `u`, in the order produced. A FRAME event: the
edges of its watches by index, then train by train its divisions and its end (R49, R50, R86); a CYCLE_CLOSE or CYCLE_LOST: channel by
channel the CHANNEL_STALE and the ends of its trains (R72, R73). -/
def State.produces (s u : State) : Event → List Thing
  | .frame id station _ =>
    match s.forward.find id with
    | none => []
    | some b =>
      if s.isDuplicate station b.ordinal then []
      else
        ((List.finRange 64).filterMap fun i =>
          (edgeOf (s.watches.get i).truth (u.watches.get i).truth).map fun rise => .watch i rise)
        ++ (List.finRange 8).flatMap fun k => List.replicate (s.divisionsAt b station k) (.trainDivision k)
          ++ (if (s.trains.get k).state ≠ .idle ∧ (u.trains.get k).state = .idle then [.trainEnd k] else [])
  | .cycleClose _ | .cycleLost _ => (List.finRange 32).flatMap fun c =>
      if (u.channels.get c).isStale && !(s.channels.get c).isStale then
        .channelStale c :: ((List.finRange 8).filter fun k =>
          decide ((s.banks.active.trains.get k).channel = c ∧ (s.trains.get k).state ≠ .idle)).map .trainEnd
      else []
  | e => e.thing?.toList

/-- The entries of things: one for each valid trigger and each thing that it matches, by ascending trigger index, those of one
trigger in the order of the things (R9, R10). -/
def State.entriesOf (s : State) (l : List Thing) : List Entry :=
  (List.finRange 48).flatMap fun t =>
    (l.filter fun x => (s.banks.active.triggers.get t).accepts x).map fun x => ⟨t, x.kind, x.index⟩

/-- `u` comes of `s`, whose burst is `b`, by adding entries at the tail of the pending-firing list: those beyond its 64 places are
dropped as merged firings of their triggers (R9, R10). -/
structure State.Pends (s u : State) (b : Burst) (l : List Entry) : Prop where
  burst : u.burst = some { b with pending := b.pending ++ l.take (64 - b.pending.length) }
  merged : ∀ t, let n := (l.drop (64 - b.pending.length)).countP (·.trigger = t)
    u.triggers.get t = if n = 0 then s.triggers.get t
      else { s.triggers.get t with merged := satAdd 65535 (s.triggers.get t).merged n }
  counter : let n := (l.drop (64 - b.pending.length)).length
    u.counter .mergedFiring = if n = 0 then s.counter .mergedFiring else satAdd 4294967295 (s.counter .mergedFiring) n

/-- How a cycle event joins an Intake Queue `l`, which is `m` then: at the tail while there is room, in the stead of the newest
ordinary event, or not at all (R4, R6). -/
def cycleEventJoins (l : List Event) (x : Event) (m : List Event) : Prop :=
  l.length < 16 ∧ m = l ++ [x]
  ∨ 16 ≤ l.length ∧ (∃ a d b, l = a ++ d :: b ∧ d.ordinary = true ∧ (∀ e ∈ b, e.ordinary = false) ∧ m = a ++ b ++ [x])
  ∨ 16 ≤ l.length ∧ (∀ e ∈ l, e.ordinary = false) ∧ m = l

/-- `t` comes of `s` by a close that the tracker produces: the report timer, if it runs, and the lease of a session rise by one, and
at its limit the timeout or the expiry falls due (R130, R171; as steps of their own: log 5). Nothing else of the Agent changes. -/
structure State.CountsClose (s t : State) : Prop where
  timer : t.report.timer
    = if s.report.timer.running then ⟨true, satInc 255 s.report.timer.count⟩ else s.report.timer
  due : t.report.timeoutDue = true ↔ s.report.timeoutDue = true
    ∨ s.report.timer.running = true ∧ s.banks.active.settings.reportTimeout ≤ satInc 255 s.report.timer.count
  agent : t.agent = { s.agent with session := s.agent.session.map fun h => { h with
    lease := satInc 4096 h.lease
    expiryDue := h.expiryDue || decide (s.banks.active.settings.lease ≤ satInc 4096 h.lease) } }

/-- Every watch on channel `c` is UNKNOWN in `u` and every train on it IDLE and OFF, the rest of their records as in `s` (R72,
R87). -/
def State.LosesUnitsOf (s u : State) (c : Fin 32) : Prop :=
  (∀ w, (s.banks.active.watches.get w).channel = c → u.watches.get w = { s.watches.get w with truth := .unknown })
  ∧ ∀ k, (s.banks.active.trains.get k).channel = c → u.trains.get k = { s.trains.get k with state := .idle, on := false }

/-- The watches and trains on channel `c` are in `u` as they are in `s`. -/
def State.KeepsUnitsOf (s u : State) (c : Fin 32) : Prop :=
  (∀ w, (s.banks.active.watches.get w).channel = c → u.watches.get w = s.watches.get w)
  ∧ ∀ k, (s.banks.active.trains.get k).channel = c → u.trains.get k = s.trains.get k

/-- The Agent after a request that waited has been answered with `r` (R17, R146, R167, R172). -/
def Agent.servedWaiting (g : Agent) (q : Request) (r : Response) : Agent :=
  { g with hold := none, responses := g.responses ++ [r], cache := if g.isHolder q then some ⟨r.seq, r⟩ else g.cache }

/-- A frame with a good check, whose fields are `v`, arrives at an UP Inbound port and finds room in the Forward Buffer. -/
structure State.Arrives (s : State) (f : Frame) (v : FrameView) : Prop where
  up : s.link.inbound.state = .up
  good : goodFrame f = some v
  room : s.forward.frames.length < 8

/-- The rows by which a frame with the bytes `f` can come in (Figure 12-1). -/
def frameRows (f : Frame) : List Instr :=
  [.cycleStartFrame f, .cycleCloseFrame f, .processFrame f, .managementFrame f, .broadcastManagementFrame f, .ownFrameReturn f,
   .otherFrame f, .failedCheckFrame f]

/-- A frame of row `c` that goes to the Forward Buffer (Figure 12-1, R179, R180). -/
def State.Forwards (s : State) (c : Instr) (f : Frame) : Prop :=
  (∃ v, goodFrame f = some v
    ∧ (c = .cycleStartFrame f ∧ v.kind = kindCycleStart ∨ c = .cycleCloseFrame f ∧ v.kind = kindCycleClose
      ∨ c = .processFrame f ∧ v.kind = kindProcess ∨ c = .broadcastManagementFrame f ∧ s.isBroadcast v = true
      ∨ c = .otherFrame f ∧ s.isOther v = true))
  ∨ c = .failedCheckFrame f ∧ goodFrame f = none

/-- Whether patch entry `i` is aimed at the frames of a station (R112). -/
def State.aims (s : State) (station : Byte) (i : Fin 16) : Bool :=
  (s.banks.active.patches.get i).valid && (s.patches.get i).armed && (s.banks.active.patches.get i).station == station

/-- The contents of slot `k` after the entries aimed at it, in ascending index: bits outside the mask kept, bits inside it from the
value (R112). -/
def State.editedSlot (s : State) (station : Byte) (k : Nat) (w : BitVec 32) : BitVec 32 :=
  (List.finRange 16).foldl (fun w i =>
    let e := s.banks.active.patches.get i
    if s.aims station i ∧ e.slot.val = k then (w &&& ~~~e.mask) ||| ((s.patches.get i).value &&& e.mask) else w) w

/-- What a swap makes of the runtime of each table of Figure 9-14, entry by entry, of the input levels (R105) and of the reporter
(R134), where the Intake Queue has room for the input edges that it accepts. -/
structure State.SwapCarries (s t : State) : Prop where
  channels : ∀ i, t.channels.get i
    = if s.banks.active.channels.get i = s.banks.staging.channels.get i then s.channels.get i else {}
  watches : ∀ i, t.watches.get i =
    (let e := s.banks.staging.watches.get i
    if s.banks.active.watches.get i = e then
      (if s.banks.active.channels.get e.channel = s.banks.staging.channels.get e.channel then s.watches.get i
        else { s.watches.get i with truth := .unknown })
    else if e.valid then ⟨.unknown, e.a, e.b⟩ else {})
  triggers : ∀ i, t.triggers.get i =
    (let e := s.banks.staging.triggers.get i
    if s.banks.active.triggers.get i = e then s.triggers.get i
    else { armed := e.valid && e.startsArmed && decide (s.engine ≠ .disarmed) })
  trains : ∀ i, t.trains.get i =
    (let e := s.banks.staging.trains.get i
    if s.banks.active.trains.get i = e then
      (if s.banks.active.channels.get e.channel = s.banks.staging.channels.get e.channel then s.trains.get i
        else { s.trains.get i with state := .idle, on := false })
    else {})
  timers : ∀ i, t.timers.get i
    = if s.banks.active.timers.get i = s.banks.staging.timers.get i then s.timers.get i else {}
  outputs : ∀ j, t.outputs.get j
    = if s.banks.active.outputs.get j = s.banks.staging.outputs.get j then s.outputs.get j else {}
  inputsKept : ∀ k, (∀ m, (s.inputs.get k).since = some m → s.now < m + 1000 * (s.banks.staging.inputs.get k).filter) →
    t.inputs.get k = s.inputs.get k
  inputsDue : ∀ k m, (s.inputs.get k).since = some m → m + 1000 * (s.banks.staging.inputs.get k).filter ≤ s.now →
    t.inputs.get k = ⟨(s.inputs.get k).pin, (s.inputs.get k).pin, none⟩
  patches : ∀ i, t.patches.get i
    = if s.banks.active.patches.get i = s.banks.staging.patches.get i then s.patches.get i else {}
  report : t.report =
    if s.banks.active.settings.markers = s.banks.staging.settings.markers then s.report
    else if s.banks.staging.settings.markers then { s.report with state := .active, resend := 0 }
    else { s.report with
      records := s.report.records.map fun d => { d with sent := none }
      timer := { s.report.timer with running := false }, timeoutDue := false, state := .polled, resend := 0 }
  engine : t.engine = s.engine

/-- Whether a record is a FAULT record. -/
def Record.isFault (d : Record) : Bool := match d.body with | .fault .. => true | _ => false

/-- The queues hold no more than the spec gives them (R4, R9, R121, R166, R167, R182). A request that waits has its place in the
Response Queue kept. -/
structure State.Bounded (s : State) : Prop where
  intake : s.intake.length ≤ 16
  forward : s.forward.frames.length ≤ 8
  inbox : s.agent.inbox.length ≤ 4
  responses : s.agent.responses.length + bit s.agent.hold.isSome ≤ 4
  records : s.report.records.length ≤ 96
  others : s.report.records.countP (fun d => !d.isFault) ≤ 92
  firings : ∀ b, s.burst = some b → b.pending.length ≤ 64

/-- Outside RUNNING nothing acts: no train runs, no timer counts, no patch is armed, no firing is pending; in DISARMED no trigger
is ARMED (R3, R18, R88, R95, R107, R154). -/
structure State.Quiet (s : State) : Prop where
  trains : s.engine ≠ .running → ∀ k, (s.trains.get k).state = .idle
  timers : s.engine ≠ .running → ∀ k, (s.timers.get k).running = false
  patches : s.engine ≠ .running → ∀ i, (s.patches.get i).armed = false
  firings : s.engine ≠ .running → ∀ b, s.burst = some b → b.pending = [] ∧ b.firing = none
  triggers : s.engine = .disarmed → ∀ t, (s.triggers.get t).armed = false

/-- A watch knows a truth, and a train runs, on a FRESH or HELD channel alone (R51, R87). -/
structure State.Tracked (s : State) : Prop where
  watches : ∀ i, (s.watches.get i).truth ≠ .unknown →
    (s.channels.get (s.banks.active.watches.get i).channel).current.isSome = true
  trains : ∀ k, (s.trains.get k).state ≠ .idle →
    (s.channels.get (s.banks.active.trains.get k).channel).current.isSome = true

/-- A change of an input is pending exactly while its pin differs from its accepted level (R106), and since a moment that has been
(R103). -/
def State.InputsExact (s : State) : Prop :=
  ∀ k, (s.inputs.get k).since.isSome = ((s.inputs.get k).pin ^^ (s.inputs.get k).accepted)
    ∧ ∀ m, (s.inputs.get k).since = some m → m ≤ s.now

/-- In POLLED and HALTED no record is SENT and the report timer is stopped; at most 4 frames are outstanding (R128, R130). -/
structure State.ReporterExact (s : State) : Prop where
  sent : s.report.state ≠ .active → ∀ d ∈ s.report.records, d.sent = none
  timer : s.report.state ≠ .active → s.report.timer.running = false
  window : s.report.outstanding.length ≤ 4

/-- The counters and the raise counts stay within their ranges (R158, R162). -/
structure State.Saturated (s : State) : Prop where
  counters : ∀ c, s.counter c ≤ 4294967295
  raises : ∀ k, (s.faults.get k).raises ≤ 65535

/-- The tracker state after a Cycle Start (Figure 12-3). -/
def stateAfterStart (k : Tracker) (number : BitVec 16) (period : Nat) : TrackerState :=
  match k.state with
  | .unlocked | .lost => .acquiring
  | .acquiring => if k.ref = some ⟨number - 1#16, period⟩ then .locked .process else .acquiring
  | .locked _ | .missing => .locked .process

/-- Whether a bit test holds, in the words of R45. -/
def bitTestHolds (test : WatchTest) (raw mask : BitVec 32) : Prop :=
  match test with
  | .bitsAll => raw &&& mask = mask
  | .bitsAny => raw &&& mask ≠ 0#32
  | .bitsNone => raw &&& mask = 0#32
  | _ => False

end Sys2Proof.Machine
end

