-- ==== Sys2Proof/Certificates/Slice0/Obligations.lean ====
section
/-! DEFINITION. The statements for the provers. -/

open Sys2Proof Sys2Proof.Machine

/-- A step executes the command at the front of the queue on the state with the queue's rest. -/
def Obligations.StepRunsTheFrontCommand : Prop :=
  ∀ (s : State) (c : Instr) (rest : List Instr), s.pending = c :: rest → step s = exec c (s.withPending rest)

/-- Every command answers a next state: none faults and none is refused. A command whose occurrence is absent answers the same
state: the model's choice, log 1. -/
def Obligations.EveryCommandAnswersNext : Prop := ∀ (c : Instr) (s : State), ∃ t, exec c s = .next t

/-- What State.reset holds of the values that the spec gives for a device reset. -/
def Obligations.ResetStateHoldsTheResetValues : Prop :=
  let s := State.reset
  s.engine = .stopped ∧ s.link.inbound.state = .down ∧ s.link.outbound.state = .down ∧ s.forward.frames = []
    ∧ s.tracker.state = .unlocked ∧ s.tracker.ref = none ∧ s.tracker.ordinal = 0#48 ∧ s.tracker.timeoutAt = none
    ∧ s.stampNow = ⟨0#16, 0⟩ ∧ s.intake = [] ∧ s.burst = none
    ∧ s.banks.active = Bank.empty ∧ s.banks.staging = Bank.empty ∧ s.banks.commitPending = false ∧ s.banks.outcome = none
    ∧ s.banks.generation = 0
    ∧ s.report.records = [] ∧ s.report.state = .polled ∧ s.report.nextSeq = 0#32 ∧ s.report.nextFrame = 0#16
    ∧ s.report.gap = 0 ∧ s.report.epoch = 0#8 ∧ s.report.resend = 0
    ∧ s.agent.session = none ∧ s.agent.inbox = [] ∧ s.agent.responses = [] ∧ s.agent.cache = none
    ∧ (∀ k, s.faults.get k = ⟨false, 0⟩) ∧ (∀ c, s.counter c = 0) ∧ s.faultn = true
    ∧ (∀ j, s.outputs.get j = ⟨false, 0⟩ ∧ s.outputPin j = false)
    ∧ (∀ k, (s.inputs.get k).since = none)

/-- DEVICE_RESET puts every block at its reset values, samples the address pins and takes the input levels (R105, R153, R164);
the model's own queue and its record of what the ring has seen stay. The model's own fields: log 7. The insertion budget, the
insertion count and the report timer's value after the reset are the model's choice: log 4. -/
def Obligations.DeviceResetStartsThePartAnew : Prop :=
  ∀ (s : State) (a : Byte) (tin : BitVec 4), ∃ t, exec (.deviceReset a tin) s = .next t
    ∧ t.link = { sent := s.link.sent, address := a }
    ∧ (∀ k, t.inputs.get k = ⟨tin.getLsbD k, tin.getLsbD k, none⟩)
    ∧ t.engine = .stopped ∧ t.banks = State.reset.banks ∧ t.tracker = State.reset.tracker ∧ t.now = 0
    ∧ t.forward = State.reset.forward ∧ t.intake = [] ∧ t.burst = none ∧ t.report = State.reset.report
    ∧ t.agent = State.reset.agent ∧ t.faults = State.reset.faults ∧ t.counters = State.reset.counters
    ∧ t.triggers = State.reset.triggers ∧ t.channels = State.reset.channels ∧ t.watches = State.reset.watches
    ∧ t.trains = State.reset.trains ∧ t.timers = State.reset.timers ∧ t.outputs = State.reset.outputs
    ∧ t.patches = State.reset.patches ∧ t.pending = s.pending

/-- The port rows (R177): a signal sends DOWN to ALIGNING, 16 consecutive good idle words make it UP, another word or a frame
sets the count back, an ALIGNING port that loses its signal goes DOWN, and a DOWN port hears nothing. The Outbound port leaves
UP at a signal loss and at a bad word that is the fourth among 64 words: it is DOWN, the frame being sent is lost, and nothing
else changes (R177, R178). The words as operands and the words of a frame are the model's: log 20, log 23. -/
def Obligations.PortsAlignComeUpAndLeave : Prop :=
  ∀ (s : State) (p : Port),
    ((s.port p).state = .down → exec (.portSignalDetect p) s = .next (s.withPort p { state := .aligning }))
    ∧ ((s.port p).state = .aligning → (s.port p).idleRun < 16 →
        exec (.portAligned p (List.replicate (16 - (s.port p).idleRun) .idle)) s = .next (s.withPort p { state := .up }))
    ∧ ((s.port p).state = .aligning → ∀ w, w ≠ LineWord.idle →
        exec (.portAligned p [w]) s = .next (s.withPort p { s.port p with idleRun := 0 }))
    ∧ ((s.port p).state = .aligning → exec (.portSignalLoss p) s = .next (s.withPort p {}))
    ∧ (∀ f, ∀ c ∈ frameRows f,
        (s.link.inbound.state = .aligning → exec c s = .next (s.withPort .inbound { s.link.inbound with idleRun := 0 }))
        ∧ (s.link.inbound.state = .down → exec c s = .next s))
    ∧ (s.link.outbound.state = .up →
        exec (.portSignalLoss .outbound) s = .next (s.withLink { s.link with outbound := {}, sending := none })
        ∧ (∀ n, n ≤ 60 → s.link.outbound.badAges = [] →
            exec (.portBadWordLimit .outbound ([.bad, .bad, .bad] ++ List.replicate n .data ++ [.bad])) s
              = .next (s.withLink { s.link with outbound := {}, sending := none }))
        ∧ (∀ n, 61 ≤ n → s.link.outbound.badAges = [] → ∃ r : PortRt, r.state = .up
            ∧ exec (.portBadWordLimit .outbound ([.bad, .bad, .bad] ++ List.replicate n .data ++ [.bad])) s
              = .next (s.withPort .outbound r)))

/-- The Inbound port leaves UP: it is DOWN, LINK_DOWN is set, a LOCKED or MISSING tracker enters LOST, an ACQUIRING one returns
to UNLOCKED, a CYCLE_LOST event joins the Intake Queue at the entry into LOST, and a RUNNING engine whose disarm set has
LINK_DOWN is DISARMED (R177, R178, R187, R159). The words as operands are the model's: log 23. -/
def Obligations.InboundPortLossRaisesLinkDown : Prop :=
  ∀ s : State, s.link.inbound.state = .up → ∀ c ∈ [Instr.portSignalLoss .inbound, .portBadWordLimit .inbound [.bad, .bad, .bad, .bad]],
    ∃ t, exec c s = .next t
      ∧ t.link = { s.link with inbound := {} }
      ∧ t.flag linkDown = true
      ∧ (t.faults.get linkDown).raises = satInc 65535 (s.faults.get linkDown).raises
      ∧ (s.tracker.state = .missing ∨ (∃ g, s.tracker.state = .locked g) → t.tracker.state = .lost ∧ t.flag cycleLost = true)
      ∧ (s.tracker.state = .acquiring → t.tracker.state = .unlocked)
      ∧ (s.tracker.state = .unlocked ∨ s.tracker.state = .lost → t.tracker = s.tracker)
      ∧ (s.tracker.state = .missing ∨ (∃ g, s.tracker.state = .locked g) → cycleEventJoins s.intake (.cycleLost s.stampNow) t.intake)
      ∧ (s.tracker.state ≠ .missing → (∀ g, s.tracker.state ≠ .locked g) → t.intake = s.intake)
      ∧ (s.engine = .running → s.inDisarmSet linkDown = true → t.engine = .disarmed)
      ∧ t.channels = s.channels ∧ t.watches = s.watches ∧ t.inputs = s.inputs ∧ t.banks = s.banks ∧ t.agent = s.agent
      ∧ (s.engine ≠ .running → t.engine = s.engine ∧ t.trains = s.trains ∧ t.timers = s.timers ∧ t.outputs = s.outputs
        ∧ t.patches = s.patches ∧ t.triggers = s.triggers ∧ t.burst = s.burst)

/-- A Cycle Start given to the tracker: it is forwarded, the state follows Figure 12-3, number, period, timeout and stamp clock
are recorded, the ordinal is 0 at the lock and steps by 1 in LOCKED and by 2 in MISSING, and in these two states a number other
than the expected one and a period other than the recorded one are counted. A Start after which the tracker is LOCKED puts its
event at the tail of the Intake Queue, behind the event of the close that it implies in the PROCESS segment, which is counted
and advances report timer and session lease (R130, R171, R180, R184 to R186). The stamp of the implied close is the model's
reading, log 12, and so is that the report timeout and the lease expiry that fall due at it come as steps of their own, log 5. -/
def Obligations.CycleStartMovesTheTracker : Prop :=
  ∀ (s : State) (f : Frame) (v : FrameView) (p : Nat), s.Arrives f v → startPeriod v = some p → ∃ t,
    exec (.cycleStartFrame f) s = .next t
    ∧ t.tracker.state = stateAfterStart s.tracker v.cycle p
    ∧ t.tracker.ref = some ⟨v.cycle, p⟩ ∧ t.tracker.timeoutAt = some (s.now + 1250 * p)
    ∧ t.tracker.stampCycle = v.cycle ∧ t.tracker.stampFrom = s.now
    ∧ (s.tracker.state = .acquiring → t.tracker.state = .locked .process → t.tracker.ordinal = 0#48)
    ∧ (∀ g, s.tracker.state = .locked g → s.tracker.ordinal.toNat + 1 < 2 ^ 48 → t.tracker.ordinal = s.tracker.ordinal + 1#48)
    ∧ (s.tracker.state = .missing → s.tracker.ordinal.toNat + 2 < 2 ^ 48 → t.tracker.ordinal = s.tracker.ordinal + 2#48)
    ∧ (t.tracker.state = .acquiring → t.tracker.ordinal = s.tracker.ordinal)
    ∧ (∀ r, s.tracker.ref = some r → (∃ g, s.tracker.state = .locked g) ∨ s.tracker.state = .missing →
        t.counter .cycleSlip = (if v.cycle = r.number + (if s.tracker.state = .missing then 2#16 else 1#16)
          then s.counter .cycleSlip else satInc 4294967295 (s.counter .cycleSlip))
        ∧ t.counter .periodChange
          = (if p = r.period then s.counter .periodChange else satInc 4294967295 (s.counter .periodChange)))
    ∧ t.counter .impliedClose = (if s.tracker.state = .locked .process then satInc 4294967295 (s.counter .impliedClose)
        else s.counter .impliedClose)
    ∧ (s.tracker.state = .locked .process → s.CountsClose t)
    ∧ (s.tracker.state ≠ .locked .process → t.report.timer = s.report.timer ∧ t.report.timeoutDue = s.report.timeoutDue
      ∧ t.agent = s.agent)
    ∧ t.forward.frames.map BufFrame.bytes = s.forward.frames.map BufFrame.bytes ++ [f]
    ∧ t.counter .framesIn = satInc 4294967295 (s.counter .framesIn)
    ∧ t.channels = s.channels ∧ t.watches = s.watches ∧ t.inputs = s.inputs ∧ t.banks = s.banks
    ∧ (s.intake.length + (if s.tracker.state = .locked .process then 2 else 1) ≤ 16 →
      t.intake = s.intake ++ (if s.tracker.state = .locked .process then [.cycleClose s.stampNow] else [])
          ++ (if t.tracker.state = .locked .process then [.cycleStart v.cycle ⟨v.cycle, 0⟩] else [])
      ∧ t.engine = s.engine ∧ t.faults = s.faults ∧ t.trains = s.trains ∧ t.timers = s.timers
      ∧ t.outputs = s.outputs ∧ t.patches = s.patches ∧ t.triggers = s.triggers ∧ t.burst = s.burst)

/-- A Cycle Close: in the PROCESS segment it opens the OPEN segment under the budget in force and advances report timer and
session lease, either of which falls due at its limit, its event joins the Intake Queue, the frame is forwarded, and a number
other than the current one is counted; in the OPEN segment it is counted as extra; elsewhere the tracker ignores it (R130, R171,
R180, R183, R186). That the report timer still runs and the session is still held after a close that reaches their limit, the
timeout and the expiry coming as steps of their own, is the model's reading: log 5. What the port hears of a frame's words is the
model's: log 20. -/
def Obligations.CycleCloseOpensTheSegment : Prop :=
  ∀ (s : State) (f : Frame) (v : FrameView), s.Arrives f v → closeGiven v = true →
    (s.tracker.state = .locked .process → ∃ t, exec (.cycleCloseFrame f) s = .next t
      ∧ t.tracker = { s.tracker with state := .locked .openSeg }
      ∧ t.link = { (s.receive f).link with budget := s.banks.active.settings.insertionBudget, inserted := 0 }
      ∧ t.forward.frames.map BufFrame.bytes = s.forward.frames.map BufFrame.bytes ++ [f]
      ∧ (∀ r, s.tracker.ref = some r → t.counter .closeMismatch
          = (if v.cycle = r.number then s.counter .closeMismatch else satInc 4294967295 (s.counter .closeMismatch)))
      ∧ s.CountsClose t
      ∧ t.channels = s.channels ∧ t.watches = s.watches ∧ t.inputs = s.inputs ∧ t.banks = s.banks
      ∧ (s.intake.length < 16 → t.intake = s.intake ++ [.cycleClose s.stampNow]
        ∧ t.forward = ((s.receive f).appendFrame f false).forward ∧ t.engine = s.engine ∧ t.faults = s.faults
        ∧ t.trains = s.trains ∧ t.timers = s.timers ∧ t.outputs = s.outputs ∧ t.patches = s.patches
        ∧ t.triggers = s.triggers ∧ t.burst = s.burst))
    ∧ (s.tracker.state = .locked .openSeg →
        exec (.cycleCloseFrame f) s = .next (((s.receive f).appendFrame f false).bump .extraClose))
    ∧ ((∀ g, s.tracker.state ≠ .locked g) → exec (.cycleCloseFrame f) s = .next ((s.receive f).appendFrame f false))

/-- A Process frame: a usable one is held with its FRAME event at the tail of the Intake Queue; one that is late is counted; one
that is timely and wanted by nobody is forwarded (R109, R181). That a late one is counted in a part without a station address
too is the model's reading: log 16. What the port hears of a frame's words is the model's: log 20. -/
def Obligations.ProcessFrameIsHeldOrForwarded : Prop :=
  ∀ (s : State) (f : Frame) (v : FrameView), s.Arrives f v → v.kind = kindProcess →
    (s.timely v = true → s.wanted v.source = true → s.intake.length < 16 →
      exec (.processFrame f) s
        = .next (((s.receive f).appendFrame f true).appendEvent (.frame s.forward.nextId v.source s.stampNow)))
    ∧ (s.timely v = true → s.wanted v.source = false →
        exec (.processFrame f) s = .next ((s.receive f).appendFrame f false))
    ∧ (s.timely v = false →
        exec (.processFrame f) s = .next (((s.receive f).bump .lateFrame).appendFrame f false))

/-- Requests, frames of the part's own, other frames and frames that fail their check at the Inbound port: a request joins the
Inbox and is not forwarded, or is dropped and counted at a full one; a frame of the part's own is removed; others are forwarded
(R166, R179, R180). That a broadcast of the part's own is removed is the model's reading, log 17; that a Start or Close which is
given to nobody is taken by OTHER_FRAME too is the model's choice, log 21. What the port hears of a frame's words is the
model's: log 20. -/
def Obligations.ReceivedFramesGoTheirWay : Prop :=
  ∀ (s : State) (f : Frame), s.link.inbound.state = .up → s.forward.frames.length < 8 →
    (∀ v, goodFrame f = some v → s.isRequest v = true →
      (s.agent.inbox.length < 4 → exec (.managementFrame f) s
        = .next ((s.receive f).withAgent { s.agent with inbox := s.agent.inbox ++ [⟨v.source, v.body⟩] }))
      ∧ (s.agent.inbox.length = 4 → exec (.managementFrame f) s = .next ((s.receive f).bump .inboxOverflow)))
    ∧ (∀ v, goodFrame f = some v → s.isOwn v = true → exec (.ownFrameReturn f) s = .next (s.receive f))
    ∧ (∀ v, goodFrame f = some v → s.isOther v = true →
        exec (.otherFrame f) s = .next ((s.receive f).appendFrame f false))
    ∧ (goodFrame f = none →
        exec (.failedCheckFrame f) s = .next (((s.receive f).bump .badCheck).appendFrame f false))

/-- A broadcast ENGINE_STOP outside a firing stops the engine without a response and leaves session, lease and cache; inside a
firing its claim waits, and is taken at the first step of the burst that ends the firing, or with the next request that claims
the Trigger Unit; any other broadcast is counted and ignored; all are forwarded (R17, R173). Where a waiting claim is taken
after an interruption is the model's choice: log 22, log 26. What the port hears of a frame's words is the model's: log 20. -/
def Obligations.BroadcastStopsTheEngine : Prop :=
  (∀ (s : State) (f : Frame) (v : FrameView), s.Arrives f v → s.isBroadcast v = true →
    (Request.isStop ⟨v.source, v.body⟩ = true → s.midFiring = false → ∃ t,
      exec (.broadcastManagementFrame f) s = .next t ∧ t.engine = .stopped ∧ t.agent = { s.agent with stopClaim := false }
        ∧ t.forward = ((s.receive f).appendFrame f false).forward ∧ t.faults = s.faults ∧ t.banks = s.banks
        ∧ t.channels = s.channels ∧ t.watches = s.watches ∧ t.report = s.report ∧ t.intake = s.intake)
    ∧ (Request.isStop ⟨v.source, v.body⟩ = true → s.midFiring = true → exec (.broadcastManagementFrame f) s
        = .next (((s.receive f).appendFrame f false).withAgent { s.agent with stopClaim := true }))
    ∧ (Request.isStop ⟨v.source, v.body⟩ = false →
        exec (.broadcastManagementFrame f) s
          = .next (((s.receive f).appendFrame f false).bump .broadcastIgnored)))
  ∧ (∀ s : State, s.agent.stopClaim = true → s.agent.hold = none → s.burstWork.midFiring = false →
      s.burstStep.engine = .stopped ∧ s.burstStep.agent.stopClaim = false)
  ∧ (∀ (s : State) (q : Request) (rest : List Request), s.agent.stopClaim = true → s.midFiring = false → q.body = [] →
      ∀ c k, (c, k) ∈ [(Instr.engineRun, 0x08#8), (.engineStop, 0x09#8), (.engineReset, 0x0A#8), (.configClear, 0x0B#8)] →
        s.ReadyHeld q rest k → ∃ t, exec c s = .next t ∧ t.agent.stopClaim = false ∧ t.agent.inbox = rest
          ∧ t.agent.responses.length = s.agent.responses.length + 1 ∧ (c ≠ .engineRun → t.engine = .stopped))

/-- A frame that meets a full Forward Buffer is discarded, whichever row of Figure 12-1 it is of: FORWARD_DISCARD rises,
FORWARD_OVERRUN is set, and the buffer holds the frames it held, in their order (R182). The frame is given to its other block all
the same: a Start and a Close to the tracker, which moves and gives its events to the Intake Queue as for any frame, and a
broadcast to the Agent (R173, R180, R185, R186). A Process frame then gives no event, even if it was usable (R182). Whether the
fault or the other block's work comes first is free, log 6, so a stop inside a firing that the fault interrupts may be taken at
once. That a stop is taken wherever no firing is in hand, and at once after an interruption, is in part the model's choice:
log 22, log 26. Where LATE_FRAME counts is the model's reading, log 16, as are the stamp of an implied close, log 12, and that
what falls due at a close comes as a step of its own, log 5. -/
def Obligations.FullForwardBufferDiscards : Prop :=
  ∀ (s : State) (f : Frame), s.forward.frames.length = 8 →
    ((s.enter f).forward = s.forward ∧ (s.enter f).flag forwardOverrun = true
      ∧ (s.enter f).counter .forwardDiscard = satInc 4294967295 (s.counter .forwardDiscard))
    ∧ (∀ c, s.link.inbound.state = .up → s.Forwards c f → ∃ t, exec c s = .next t
      ∧ t.forward.frames.map (fun b => (b.id, b.bytes)) = s.forward.frames.map (fun b => (b.id, b.bytes))
      ∧ t.flag forwardOverrun = true
      ∧ (t.faults.get forwardOverrun).raises = satInc 65535 (s.faults.get forwardOverrun).raises
      ∧ t.counter .forwardDiscard = satInc 4294967295 (s.counter .forwardDiscard)
      ∧ t.counter .framesIn = satInc 4294967295 (s.counter .framesIn))
    ∧ (∀ v, s.link.inbound.state = .up → goodFrame f = some v →
      (∀ p, startPeriod v = some p → ∃ t m, exec (.cycleStartFrame f) s = .next t
        ∧ t.tracker.state = stateAfterStart s.tracker v.cycle p
        ∧ t.tracker.ref = some ⟨v.cycle, p⟩ ∧ t.tracker.timeoutAt = some (s.now + 1250 * p)
        ∧ t.tracker.stampCycle = v.cycle ∧ t.tracker.stampFrom = s.now
        ∧ (s.tracker.state = .locked .process → t.counter .impliedClose = satInc 4294967295 (s.counter .impliedClose)
          ∧ s.CountsClose t ∧ cycleEventJoins s.intake (.cycleClose s.stampNow) m)
        ∧ (s.tracker.state ≠ .locked .process → t.counter .impliedClose = s.counter .impliedClose ∧ m = s.intake)
        ∧ (t.tracker.state = .locked .process → cycleEventJoins m (.cycleStart v.cycle ⟨v.cycle, 0⟩) t.intake)
        ∧ (t.tracker.state ≠ .locked .process → t.intake = m))
      ∧ (closeGiven v = true → ∃ t, exec (.cycleCloseFrame f) s = .next t
        ∧ (s.tracker.state = .locked .process → t.tracker = { s.tracker with state := .locked .openSeg }
          ∧ t.link.budget = s.banks.active.settings.insertionBudget ∧ t.link.inserted = 0
          ∧ s.CountsClose t ∧ cycleEventJoins s.intake (.cycleClose s.stampNow) t.intake)
        ∧ (s.tracker.state ≠ .locked .process → t.tracker = s.tracker ∧ t.intake = s.intake ∧ t.agent = s.agent)
        ∧ t.counter .extraClose = (if s.tracker.state = .locked .openSeg then satInc 4294967295 (s.counter .extraClose)
            else s.counter .extraClose))
      ∧ (s.isBroadcast v = true → ∃ t, exec (.broadcastManagementFrame f) s = .next t ∧ t.intake = s.intake
        ∧ (Request.isStop ⟨v.source, v.body⟩ = true → s.midFiring = false →
          t.engine = .stopped ∧ t.agent = { s.agent with stopClaim := false })
        ∧ (Request.isStop ⟨v.source, v.body⟩ = true → s.midFiring = true →
          (t.agent = { s.agent with stopClaim := true } ∨ t.engine = .stopped ∧ t.agent = { s.agent with stopClaim := false })
          ∧ (s.engine ≠ .running ∨ s.inDisarmSet forwardOverrun = false ∧ s.inDisarmSet reportLoss = false →
            t.agent = { s.agent with stopClaim := true }))
        ∧ (Request.isStop ⟨v.source, v.body⟩ = false → t.agent = s.agent
          ∧ t.counter .broadcastIgnored = satInc 4294967295 (s.counter .broadcastIgnored)))
      ∧ (v.kind = kindProcess → ∃ t, exec (.processFrame f) s = .next t
        ∧ t.intake = s.intake ∧ t.forward = s.forward ∧ t.tracker = s.tracker ∧ t.channels = s.channels
        ∧ t.counter .lateFrame
          = (if s.timely v = true then s.counter .lateFrame else satInc 4294967295 (s.counter .lateFrame))))

/-- FORWARD_RELEASE: a releasable head leaves the buffer and is sent, or is discarded and counted while the Outbound port is not
UP; a held head blocks (R178, R182). When a sending ends is the model's choice: log 14. -/
def Obligations.ForwardReleaseSendsTheHead : Prop :=
  ∀ (s : State) (b : BufFrame) (rest : List BufFrame), s.forward.frames = b :: rest → s.link.sending = none →
    (b.held = false → s.link.outbound.state = .up → exec .forwardRelease s
      = .next ((s.withForward { s.forward with frames := rest }).withLink { s.link with sending := some b.bytes }))
    ∧ (b.held = false → s.link.outbound.state ≠ .up → exec .forwardRelease s
      = .next ((s.withForward { s.forward with frames := rest }).bump .forwardDiscard))
    ∧ (b.held = true → exec .forwardRelease s = .next s)

/-- INSERTION_START by Figure 12-2. Nothing starts behind a releasable head of the Forward Buffer, in the PROCESS segment, or in
the OPEN segment once the budget is spent. Where an insertion may start, in the OPEN segment under the budget or while the
tracker is not LOCKED, the oldest response is taken, which counts in the OPEN segment alone; its frame is sent, or is discarded
and counted in FORWARD_DISCARD while the Outbound port is not UP (R167, R178, R183). With no response, a marker slot is granted in
the OPEN segment alone, with the port UP, the reporter ACTIVE, a PENDING record and fewer than 4 frames outstanding: the oldest
PENDING records, up to the setting, become SENT under the next frame number, which rises by one; the report timer starts when no
frame was outstanding; the frame is sent and the insertion is counted (R127, R183). Otherwise nothing starts. That a slot is
granted also between the close which makes the report timeout due and the timeout is the model's choice: log 5. -/
def Obligations.InsertionSendsResponseOrMarker : Prop :=
  ∀ s : State, s.link.sending = none →
    (s.forwardIdle = false ∨ s.tracker.state = .locked .process
        ∨ s.tracker.state = .locked .openSeg ∧ s.link.budget ≤ s.link.inserted →
      exec .insertionStart s = .next s)
    ∧ (s.forwardIdle = true →
      (s.tracker.state = .locked .openSeg ∧ s.link.inserted < s.link.budget ∨ ∀ g, s.tracker.state ≠ .locked g) →
      (∀ (r : Response) (rest : List Response), s.agent.responses = r :: rest →
        let taken := s.withAgent { s.agent with responses := rest }
        let counted := if s.tracker.state = .locked .openSeg then s.link.inserted + 1 else s.link.inserted
        (s.link.outbound.state = .up → exec .insertionStart s
          = .next (taken.withLink { s.link with inserted := counted, sending := some (s.responseFrame r) }))
        ∧ (s.link.outbound.state ≠ .up → exec .insertionStart s
          = .next ((taken.withLink { s.link with inserted := counted }).bump .forwardDiscard)))
      ∧ (s.agent.responses = [] →
        let granted := s.tracker.state = .locked .openSeg ∧ s.link.outbound.state = .up ∧ s.report.state = .active
          ∧ (∃ d ∈ s.report.records, d.sent = none) ∧ s.report.outstanding.length < 4
        (granted → exec .insertionStart s = .next
          ((s.withLink { s.link with inserted := s.link.inserted + 1, sending := some s.markerFrame }).withReport
            { s.report with
              records := markSent s.report.nextFrame s.banks.active.settings.perFrame s.report.records
              nextFrame := s.report.nextFrame + 1#16
              timer := if s.report.outstanding = [] then ⟨true, 0⟩ else s.report.timer }))
        ∧ (¬ granted → exec .insertionStart s = .next s)))

/-- TRACKER_TIMEOUT: ACQUIRING returns to UNLOCKED, LOCKED enters MISSING with a new timeout, after an implied close in the
PROCESS segment, which is counted, advances report timer and session lease, either of which falls due at its limit, and gives
its event to the Intake Queue; MISSING enters LOST with the CYCLE_LOST fault and event (R130, R171, R184, R186, R187). R187
keeps no number or period 'for locking'; that STATUS_READ then shows none is the model's reading: log 13. That the report timer
still runs and the session is still held after an implied close that reaches their limit is the model's reading: log 5. When a
timeout can happen is the model's reading: log 25. -/
def Obligations.TrackerTimeoutByState : Prop :=
  ∀ (s : State) (d : Nat) (r : CycleRef), s.tracker.timeoutAt = some d → d ≤ s.now → s.tracker.ref = some r → ∃ t,
    exec .trackerTimeout s = .next t
    ∧ (s.tracker.state = .acquiring → t = s.withTracker { s.tracker with state := .unlocked, ref := none, timeoutAt := none })
    ∧ (∀ g, s.tracker.state = .locked g →
        t.tracker = { s.tracker with state := .missing, timeoutAt := some (d + 1250 * r.period) })
    ∧ (s.tracker.state = .locked .process →
        t.counter .impliedClose = satInc 4294967295 (s.counter .impliedClose)
        ∧ s.CountsClose t
        ∧ cycleEventJoins s.intake (.cycleClose s.stampNow) t.intake)
    ∧ (s.tracker.state = .missing →
        t.tracker = { s.tracker with state := .lost, timeoutAt := none } ∧ t.flag cycleLost = true
        ∧ (t.faults.get cycleLost).raises = satInc 65535 (s.faults.get cycleLost).raises ∧ t.agent = s.agent
        ∧ t.report.timer = s.report.timer ∧ t.report.timeoutDue = s.report.timeoutDue
        ∧ cycleEventJoins s.intake (.cycleLost s.stampNow) t.intake)
    ∧ (s.tracker.state = .locked .openSeg → t = s.withTracker t.tracker)
    ∧ t.channels = s.channels ∧ t.watches = s.watches ∧ t.inputs = s.inputs ∧ t.banks = s.banks

/-- REPORT_TIMEOUT: every SENT record is PENDING again in its place, the timer stops, its value standing (the model's reading,
log 29), and the resend count rises; beyond the retry limit the reporter is HALTED and REPORT_HALT is set (R131).
SESSION_LEASE_EXPIRY ends the session and empties the cache, and nothing else (R168, R171). Both as steps of their own are the
model's reading: log 5. -/
def Obligations.ReportTimeoutAndLeaseExpiry : Prop :=
  ∀ s : State,
    (s.report.timeoutDue = true → s.report.resend + 1 ≤ s.banks.active.settings.retryLimit →
      exec .reportTimeout s = .next (s.withReport { s.report with
        records := s.report.records.map fun d => { d with sent := none }
        timer := { s.report.timer with running := false }, timeoutDue := false, resend := s.report.resend + 1 }))
    ∧ (s.report.timeoutDue = true → s.banks.active.settings.retryLimit < s.report.resend + 1 → ∃ t,
        exec .reportTimeout s = .next t ∧ t.report.state = .halted ∧ t.flag reportHalt = true
        ∧ t.report.timer = { s.report.timer with running := false } ∧ t.report.resend = s.report.resend + 1
        ∧ (s.report.records.map fun d => { d with sent := none }) <+: t.report.records
        ∧ t.link = s.link ∧ t.agent = s.agent ∧ t.tracker = s.tracker ∧ t.banks = s.banks ∧ t.intake = s.intake)
    ∧ (∀ h : Session, s.agent.session = some h → h.expiryDue = true →
        exec .sessionLeaseExpiry s = .next (s.withAgent { s.agent with session := none, cache := none }))

/-- TIMER_EXPIRY: a PERIODIC timer starts again from 0, a ONE_SHOT timer stops at its period, and the event joins the Intake
Queue when it has room (R93). PULSE_END makes the line INACTIVE with no pulse remaining, and nothing else (R97). When they can
happen is the model's reading: log 25. Within a firing a timer at the start of its count does not expire, and a step on an empty
queue leaves the clock where it is, so that a TIMER_CAPTURE after a TIMER_START in one list reports 0 and RUNNING (R34): how the
model lets time pass is its choice, log 2, log 25. -/
def Obligations.CountsThatComeToTheirEnd : Prop :=
  ∀ s : State,
    (∀ k : Fin 4, (s.banks.active.timers.get k).valid = true → (s.timers.get k).running = true →
      (s.banks.active.timers.get k).period ≤ (s.timers.get k).elapsed + 1 → s.intake.length < 16 →
      (s.midFiring = true → (s.timers.get k).elapsed ≠ 0) →
      exec (.timerExpiry k) s = .next ((s.withTimers (s.timers.set k
        (if (s.banks.active.timers.get k).periodic then ⟨true, 0⟩ else ⟨false, (s.banks.active.timers.get k).period⟩))).withIntake
        (s.intake ++ [.timerExpiry k s.stampNow])))
    ∧ (∀ j : Fin 8, (s.outputs.get j).pulse = 1 →
      exec (.pulseEnd j) s = .next (s.withOutputs (s.outputs.set j ⟨false, 0⟩)))
    ∧ (s.midFiring = true →
      (∀ k : Fin 4, (s.timers.get k).elapsed = 0 → exec (.timerExpiry k) s = .next s)
      ∧ (s.pending = [] → ∀ t, step s = .next t → t.now = s.now))

/-- INPUT_PIN_CHANGE records a pending change at a level other than the accepted one and abandons it at the accepted one;
INPUT_EDGE_ACCEPT of a change that has held for its filter time makes it the accepted level, and the event, with direction,
levels and stamp, is produced when a trigger waits for the input (R7, R103, R104). When an acceptance can happen is the model's
reading: log 25. -/
def Obligations.InputChangesAreFilteredAndAccepted : Prop :=
  ∀ (s : State) (k : Fin 4),
    (∀ high : Bool, (s.inputs.get k).pin ≠ high → exec (.inputPinChange k high) s = .next (s.withInputs (s.inputs.set k
      ⟨(s.inputs.get k).accepted, high, if high = (s.inputs.get k).accepted then none else some s.now⟩)))
    ∧ (∀ m : Nat, (s.inputs.get k).since = some m → m + 1000 * (s.banks.active.inputs.get k).filter ≤ s.now →
      s.intake.length < 16 →
      let u := s.withInputs (s.inputs.set k ⟨(s.inputs.get k).pin, (s.inputs.get k).pin, none⟩)
      exec (.inputEdgeAccept k) s = .next
        (if s.inputWatched k then u.withIntake (s.intake ++ [.inputEdge k (s.inputs.get k).pin u.inputLevels s.stampNow])
          else u))

/-- A full Intake Queue. A drop leaves the queue, the counters but for INTAKE_DROP and REPORT_LOST, the channels, watches and
inputs as they are, raises EVENT_OVERRUN with what it makes of the engine, and releases the event's frame unedited; trains,
timers, lines, patches and triggers stay as they are unless the engine leaves RUNNING (R5, R122, R154). An ordinary event that
arrives at a full queue is dropped; a cycle event displaces the newest ordinary event, which is dropped, and joins the tail, and
is itself dropped when none is ordinary; a Start in the PROCESS segment offers the event of the close it implies and then its
own (R5, R6, R185). The stamp of that implied close is the model's reading, log 12, and so is when an event of the clock can
happen, log 25. What the port hears of a frame's words is the model's: log 20. -/
def Obligations.FullIntakeQueueDrops : Prop :=
  (∀ (s : State) (e : Event), let t := s.dropEvent e
    t.intake = s.intake ∧ t.counter .intakeDrop = satInc 4294967295 (s.counter .intakeDrop) ∧ t.flag eventOverrun = true
    ∧ (t.faults.get eventOverrun).raises = satInc 65535 (s.faults.get eventOverrun).raises
    ∧ (e.frameId = none → t.forward = s.forward)
    ∧ (∀ id, e.frameId = some id → t.forward = { s.forward with
        frames := s.forward.frames.map fun b => if b.id = id then { b with held := false } else b })
    ∧ (s.engine = .running → s.inDisarmSet eventOverrun = true → t.engine = .disarmed)
    ∧ (s.engine ≠ .running → t.engine = s.engine)
    ∧ t.channels = s.channels ∧ t.watches = s.watches ∧ t.inputs = s.inputs ∧ t.tracker = s.tracker ∧ t.link = s.link
    ∧ t.banks = s.banks ∧ t.agent = s.agent
    ∧ (∀ c, c ≠ .intakeDrop → c ≠ .reportLost → t.counter c = s.counter c)
    ∧ (t.engine = s.engine → t.trains = s.trains ∧ t.timers = s.timers ∧ t.outputs = s.outputs ∧ t.patches = s.patches
      ∧ t.triggers = s.triggers ∧ t.burst = s.burst))
  ∧ (∀ (s : State) (f : Frame) (v : FrameView) (p : Nat), s.Arrives f v → startPeriod v = some p →
    s.tracker.state = .locked .process → ∃ t m, exec (.cycleStartFrame f) s = .next t
      ∧ cycleEventJoins s.intake (.cycleClose s.stampNow) m ∧ cycleEventJoins m (.cycleStart v.cycle ⟨v.cycle, 0⟩) t.intake)
  ∧ (∀ s : State, s.intake.length = 16 →
    (∀ f v, s.Arrives f v → v.kind = kindProcess → s.timely v = true → s.wanted v.source = true →
      exec (.processFrame f) s
        = .next (((s.receive f).appendFrame f true).dropEvent (.frame s.forward.nextId v.source s.stampNow)))
    ∧ (∀ k : Fin 4, (s.banks.active.timers.get k).valid = true → (s.timers.get k).running = true →
      (s.banks.active.timers.get k).period ≤ (s.timers.get k).elapsed + 1 →
      (s.midFiring = true → (s.timers.get k).elapsed ≠ 0) →
      exec (.timerExpiry k) s = .next ((s.withTimers (s.timers.set k
        (if (s.banks.active.timers.get k).periodic then ⟨true, 0⟩
          else ⟨false, (s.banks.active.timers.get k).period⟩))).dropEvent (.timerExpiry k s.stampNow)))
    ∧ (∀ (k : Fin 4) (m : Nat), (s.inputs.get k).since = some m →
      m + 1000 * (s.banks.active.inputs.get k).filter ≤ s.now → s.inputWatched k = true →
      let u := s.withInputs (s.inputs.set k ⟨(s.inputs.get k).pin, (s.inputs.get k).pin, none⟩)
      exec (.inputEdgeAccept k) s = .next (u.dropEvent (.inputEdge k (s.inputs.get k).pin u.inputLevels s.stampNow)))
    ∧ (∀ c x, (∃ f v, s.Arrives f v ∧ closeGiven v = true ∧ s.tracker.state = .locked .process
          ∧ c = .cycleCloseFrame f ∧ x = .cycleClose s.stampNow)
        ∨ (∃ f v p, s.Arrives f v ∧ startPeriod v = some p ∧ (s.tracker.state = .locked .openSeg ∨ s.tracker.state = .missing)
          ∧ c = .cycleStartFrame f ∧ x = .cycleStart v.cycle ⟨v.cycle, 0⟩)
        ∨ (∃ d, s.tracker.timeoutAt = some d ∧ d ≤ s.now ∧ s.tracker.state = .missing ∧ c = .trackerTimeout
          ∧ x = .cycleLost s.stampNow) →
      (∀ a d b, s.intake = a ++ d :: b → d.ordinary = true → (∀ e ∈ b, e.ordinary = false) → ∃ t, exec c s = .next t
        ∧ t.intake = a ++ b ++ [x] ∧ t.flag eventOverrun = true
        ∧ t.counter .intakeDrop = satInc 4294967295 (s.counter .intakeDrop)
        ∧ (∀ id, d.frameId = some id → ∀ y ∈ t.forward.frames, y.id = id → y.held = false))
      ∧ ((∀ e ∈ s.intake, e.ordinary = false) → ∃ t, exec c s = .next t ∧ t.intake = s.intake
        ∧ t.flag eventOverrun = true ∧ t.counter .intakeDrop = satInc 4294967295 (s.counter .intakeDrop))))

/-- Each of the seven TAKE_* commands takes the event at the head of the Intake Queue and begins a burst with its stamp, an
empty fired set and, outside RUNNING, no firings; run whole, the burst is the one begun, stepped by the executor to its end (R8,
R9, R11; how far a command runs the burst is the model's operand, log 10). -/
def Obligations.TakingAnEventBeginsItsBurst : Prop :=
  ∀ (s : State) (e : Event) (rest : List Event), s.burst = none → s.intake = e :: rest → ∃ u b,
    exec (takeIn .stepwise e) s = .next u ∧ exec (takeIn .whole e) s = .next (u.runBurst burstFuel)
    ∧ u.burst = some b ∧ b.stamp = e.stamp ∧ b.frame = e.frameId ∧ b.fired = 0#48 ∧ b.firing = none
    ∧ (s.engine ≠ .running → b.pending = [])
    ∧ u.intake = rest ∧ u.engine = s.engine ∧ u.banks = s.banks ∧ u.agent = s.agent ∧ u.report = s.report
    ∧ u.tracker = s.tracker ∧ u.forward = s.forward ∧ u.timers = s.timers ∧ u.outputs = s.outputs ∧ u.patches = s.patches
    ∧ u.inputs = s.inputs ∧ u.faults = s.faults ∧ u.link = s.link
    ∧ (e.thing?.isSome = true ∨ e.code = 6 → u.channels = s.channels ∧ u.watches = s.watches ∧ u.trains = s.trains)

/-- The initial pending-firing list is ordered by ascending trigger index. In RUNNING it holds one entry for each valid trigger
and each produced thing that it matches, those of one trigger in the order produced, up to its 64 places, and the rest are
merged firings: the things of a FRAME event are its watch edges and its trains' divisions and ends, those of a CYCLE_CLOSE and a
CYCLE_LOST are the channels that went STALE and the ends of their trains, and another event is one thing; a FIRE_REQUEST gives
one entry for each valid trigger that is named (R2, R9, R16, R50, R72, R86). A derived event appends its entries at the tail in
the same way (R10). -/
def Obligations.InitialListHoldsTheMatches : Prop :=
  (∀ (s u : State) (e : Event) (rest : List Event) (b : Burst), s.burst = none → s.intake = e :: rest →
    exec (takeIn .stepwise e) s = .next u → u.burst = some b →
    b.pending.Pairwise (fun x y => x.trigger ≤ y.trigger)
    ∧ (∀ x, s.engine = .running → e.thing? = some x → b.pending =
        ((List.finRange 48).filter fun t => (s.banks.active.triggers.get t).accepts x).map fun t => ⟨t, x.kind, x.index⟩)
    ∧ (∀ m st, s.engine = .running → e = .fireRequest m st → b.pending =
        ((List.finRange 48).filter fun (t : Fin 48) => m.getLsbD t && (s.banks.active.triggers.get t).valid).map fun t => ⟨t, .none, 0⟩)
    ∧ (s.engine = .running → e.code ≠ 6 → s.Pends u { b with pending := [] } (s.entriesOf (s.produces u e))))
  ∧ (∀ (s : State) (b : Burst) (x : Thing), s.burst = some b → s.Pends (s.derive x) b (s.entriesOf [x])
    ∧ s.derive x = ((s.withBurst (s.derive x).burst).withTriggers (s.derive x).triggers).withCounters (s.derive x).counters
    ∧ ∀ c, c ≠ .mergedFiring → (s.derive x).counter c = s.counter c)

/-- A step of a burst in RUNNING: an entry whose trigger has fired in the burst is merged, one whose trigger is DISABLED is
dropped without counting, and one whose trigger is ARMED begins its firing; a leader whose lists have run completes, with its
fire count, its stamp, its DISABLED state when it is ONCE, and its FIRE record when its entry asks for one (R11 to R14). -/
def Obligations.FiringsBeginMergeAndComplete : Prop :=
  ∀ (s : State) (b : Burst), s.burst = some b → s.engine = .running →
    (∀ e rest, b.firing = none → b.pending = e :: rest →
      let left := s.withBurst (some { b with pending := rest })
      let t := s.banks.active.triggers.get e.trigger
      (b.fired.getLsbD e.trigger = true → s.burstWork = left.countMerged e.trigger 1)
      ∧ (b.fired.getLsbD e.trigger = false → (s.triggers.get e.trigger).armed = false → s.burstWork = left)
      ∧ (b.fired.getLsbD e.trigger = false → (s.triggers.get e.trigger).armed = true → s.burstWork = s.withBurst (some
          { b with pending := rest, fired := b.fired ||| BitVec.twoPow 48 e.trigger
                   firing := some ⟨e, none, t.first, t.count, t.joins⟩ })))
    ∧ (∀ f, b.firing = some f → f.left = 0 → f.member = none → f.joins = [] →
      let i := f.leader.trigger
      let r := s.triggers.get i
      let done := (s.withBurst (some { b with firing := none })).withTriggers (s.triggers.set i
        ⟨r.armed && !(s.banks.active.triggers.get i).once, satInc 4294967295 r.fires, some b.stamp, r.merged⟩)
      ((s.banks.active.triggers.get i).report = false → s.burstWork = done)
      ∧ ((s.banks.active.triggers.get i).report = true → s.report.records.length < 92 →
          s.burstWork = done.withReport (s.report.append b.stamp (.fire i f.leader.kind f.leader.index none))))

/-- The firing in hand. Its next action runs on behalf of the trigger whose list it is, and when it takes the engine out of
RUNNING the cleanup follows the whole action (R12, R18, R25, R27). With the leader's list run, the next member of the join list
is merged when it has fired in the burst, passed over when it is DISABLED, and fires as member when it is ARMED; a member whose
list has run completes, and its FIRE record, when its entry asks for one, carries the leader's source and index (R13, R14). -/
def Obligations.FiringsRunActionsAndJoins : Prop :=
  ∀ (s : State) (b : Burst) (f : Firing), s.burst = some b → b.firing = some f → s.engine = .running →
    (∀ n, f.left = n + 1 →
      let r := (s.withBurst (some { b with firing := some { f with next := f.next + 1, left := n } })).runAction
        (match f.member with | some m => m | none => f.leader.trigger) f.next
      s.burstWork = if r.engine = .running then r else r.cleanup)
    ∧ (∀ m rest, f.left = 0 → f.member = none → f.joins = m :: rest →
      let passed := s.withBurst (some { b with firing := some { f with joins := rest } })
      let e := s.banks.active.triggers.get m
      (b.fired.getLsbD m = true → s.burstWork = passed.countMerged m 1)
      ∧ (b.fired.getLsbD m = false → (s.triggers.get m).armed = false → s.burstWork = passed)
      ∧ (b.fired.getLsbD m = false → (s.triggers.get m).armed = true → s.burstWork = s.withBurst (some
          { b with fired := b.fired ||| BitVec.twoPow 48 m
                   firing := some { f with member := some m, next := e.first, left := e.count, joins := rest } })))
    ∧ (∀ m, f.left = 0 → f.member = some m →
      let r := s.triggers.get m
      let done := (s.withBurst (some { b with firing := some { f with member := none } })).withTriggers (s.triggers.set m
        ⟨r.armed && !(s.banks.active.triggers.get m).once, satInc 4294967295 r.fires, some b.stamp, r.merged⟩)
      ((s.banks.active.triggers.get m).report = false → s.burstWork = done)
      ∧ ((s.banks.active.triggers.get m).report = true → s.report.records.length < 92 → s.burstWork = done.withReport
          (s.report.append b.stamp (.fire m f.leader.kind f.leader.index (some f.leader.trigger)))))

/-- The end of a burst. A FRAME burst's frame has each slot edited under the masks of the armed entries aimed at its station,
each entry that edits it counts it and is disarmed when it is ONE_SHOT, an entry whose slot the frame lacks counts in PATCH_MISS
and stays armed; an edited frame has a new check, another is as it came, and the frame becomes releasable in its place (R8, R112
to R115). A burst begun by a CYCLE_CLOSE carries a commit that was PENDING when the event was taken, and its end makes the swap
if the commit is still PENDING (R145, R148, R149). What the report timer stands at after a swap that stops it is the model's
reading, log 29, and so is that a report timeout which was due then does not come, log 5. -/
def Obligations.BurstEndPatchesReleasesAndSwaps : Prop :=
  (∀ (s : State) (b : Burst) (id : Nat) (x : BufFrame) (v : FrameView), s.burst = some b → b.firing = none → b.pending = [] →
    b.carriesSwap = false → s.agent.hold = none → b.frame = some id → s.forward.find id = some x →
    goodFrame x.bytes = some v →
    let slot : Fin 16 → Nat := fun i => (s.banks.active.patches.get i).slot.val
    let hits : Fin 16 → Bool := fun i => s.aims v.source i && decide (slot i < slotCount x.bytes)
    let misses := (List.finRange 16).countP fun i => s.aims v.source i && !decide (slot i < slotCount x.bytes)
    ∃ t f, s.burstWork = t
      ∧ t = (((s.withPatches t.patches).withCounters t.counters).withForward { s.forward with
          frames := s.forward.frames.map fun y => if y.id = id then { y with bytes := f, held := false } else y }).withBurst none
      ∧ (∀ i, t.patches.get i = if hits i then { s.patches.get i with
            applied := satInc 4294967295 (s.patches.get i).applied, armed := (s.banks.active.patches.get i).hold }
          else s.patches.get i)
      ∧ t.counter .patchMiss
          = (if misses = 0 then s.counter .patchMiss else satAdd 4294967295 (s.counter .patchMiss) misses)
      ∧ (∀ c, c ≠ .patchMiss → t.counter c = s.counter c)
      ∧ f.length = x.bytes.length ∧ f.take 7 = x.bytes.take 7
      ∧ (∀ k, slotAt f k = (slotAt x.bytes k).map (s.editedSlot v.source k))
      ∧ ((∀ i, hits i = false) → f = x.bytes)
      ∧ ((∃ i, hits i = true) → ∃ l, f = l ++ beBytes 4 (crc l).toNat))
  ∧ (∀ (s : State) (st : Stamp) (rest : List Event), s.burst = none → s.intake = .cycleClose st :: rest → ∃ u b,
      exec (.takeCycleClose .stepwise) s = .next u ∧ u.burst = some b ∧ b.carriesSwap = s.banks.commitPending ∧ b.frame = none)
  ∧ (∀ (s : State) (b : Burst), s.burst = some b → b.firing = none → b.pending = [] → b.frame = none → s.agent.hold = none →
      (b.carriesSwap = false ∨ s.banks.commitPending = false → s.burstWork = s.withBurst none)
      ∧ (b.carriesSwap = true → s.banks.commitPending = true → ∃ t, s.burstWork = t ∧ t.burst = none
        ∧ t.banks = { active := s.banks.staging, staging := s.banks.staging, commitPending := false, outcome := some .swapped
                      generation := if s.banks.generation = 65535 then 1 else s.banks.generation + 1 }
        ∧ t.tracker = s.tracker ∧ t.link = s.link ∧ t.agent = s.agent ∧ t.now = s.now
        ∧ (s.intake.length ≤ 12 → s.SwapCarries t)))

/-- A FRAME event that is no duplicate updates every channel of its station whose slot the frame carries, by the channel's kind,
and no other channel; then every valid watch whose channel it updated is evaluated with the value that the update left, and no
other watch (R50); a duplicate sample is counted and updates no channel, no watch and no train (R61 to R64). -/
def Obligations.FrameEventUpdatesItsChannels : Prop :=
  ∀ (s : State) (id : Nat) (st : Stamp) (station : Byte) (b : BufFrame) (rest : List Event), s.burst = none →
    s.intake = .frame id station st :: rest → s.forward.find id = some b → ∃ u,
    exec (.takeFrameEvent .stepwise) s = .next u
    ∧ (s.isDuplicate station b.ordinal = false → ∀ i, u.channels.get i =
        (match slotAt b.bytes (s.banks.active.channels.get i).slot with
        | some raw => if s.follows station i
            then ⟨.seen .fresh (nextSample (s.banks.active.channels.get i).kind (s.channels.get i).value raw b.ordinal), 0, true⟩
            else s.channels.get i
        | none => s.channels.get i))
    ∧ (s.isDuplicate station b.ordinal = false → ∀ w, let we := s.banks.active.watches.get w
      let ce := s.banks.active.channels.get we.channel
      (∀ raw, we.valid = true → s.follows station we.channel = true → slotAt b.bytes ce.slot = some raw → u.watches.get w
          = (s.watches.get w).evaluate we (nextSample ce.kind (s.channels.get we.channel).value raw b.ordinal))
      ∧ (we.valid = false ∨ s.follows station we.channel = false ∨ slotAt b.bytes ce.slot = none →
          u.watches.get w = s.watches.get w))
    ∧ (s.isDuplicate station b.ordinal = true → u.channels = s.channels ∧ u.watches = s.watches ∧ u.trains = s.trains
        ∧ u.counter .duplicateSample = satInc 4294967295 (s.counter .duplicateSample))

/-- A delta and a velocity: the shorter way round for WRAPPED, the exact difference for ABSOLUTE; the velocity is 0 out of
UNSEEN and STALE and on FLAGS, and else the delta by the cycles, truncated toward zero and held within 32 bits (R65 to R70). -/
def Obligations.ChannelSampleByKindAndState : Prop :=
  ∀ (k : ChannelKind) (v : ChannelValue) (raw : BitVec 32) (ord : BitVec 48),
    let n := nextSample k v raw ord
    n.raw = raw ∧ n.ordinal = ord
    ∧ (k = .flags ∨ v = .unseen → n.extended = raw.signExtend 48 ∧ n.velocity = 0#32)
    ∧ (∀ f m, v = .seen f m → k = .wrapped → n.extended = m.extended + BitVec.ofInt 48 (raw - m.raw).toInt)
    ∧ (∀ f m, v = .seen f m → k = .absolute → n.extended = m.extended + BitVec.ofInt 48 (raw.toInt - m.raw.toInt))
    ∧ (∀ m, v = .seen .stale m → n.velocity = 0#32)
    ∧ (∀ f m, v = .seen f m → f ≠ .stale → k = .wrapped → n.velocity.toInt =
        max (-2147483648) (min 2147483647 (Int.tdiv (raw - m.raw).toInt (max 1 ((ord.toNat : Int) - m.ordinal.toNat)))))
    ∧ (∀ f m, v = .seen f m → f ≠ .stale → k = .absolute → n.velocity.toInt =
        max (-2147483648) (min 2147483647 (Int.tdiv (raw.toInt - m.raw.toInt) (max 1 ((ord.toNat : Int) - m.ordinal.toNat)))))

/-- Miss accounting at a CYCLE_CLOSE: an updated channel is FRESH with its flag cleared; one without a sample counts a miss and
is HELD, or STALE at the miss limit (R71, R72). A CYCLE_LOST makes every FRESH or HELD channel STALE with its values and misses
kept, and clears every updated flag (R73). The watches of a channel that goes STALE are UNKNOWN, thresholds kept, and its trains
IDLE and OFF, counts kept; the watches and trains of every other channel are as they were (R51, R72, R87). -/
def Obligations.ChannelsAtCloseAndLoss : Prop :=
  (∀ (s : State) (st : Stamp) (rest : List Event), s.burst = none → s.intake = .cycleClose st :: rest → ∃ u,
    exec (.takeCycleClose .stepwise) s = .next u
    ∧ (∀ i f m, (s.banks.active.channels.get i).valid = true → (s.channels.get i).value = .seen f m → f ≠ .stale →
        let c := s.channels.get i
        (c.updated = true → u.channels.get i = ⟨.seen .fresh m, c.misses, false⟩ ∧ s.KeepsUnitsOf u i)
        ∧ (c.updated = false → c.misses + 1 ≠ (s.banks.active.channels.get i).missLimit →
            u.channels.get i = ⟨.seen .held m, c.misses + 1, false⟩ ∧ s.KeepsUnitsOf u i)
        ∧ (c.updated = false → c.misses + 1 = (s.banks.active.channels.get i).missLimit →
            u.channels.get i = ⟨.seen .stale m, c.misses + 1, false⟩ ∧ s.LosesUnitsOf u i))
    ∧ (∀ i, (s.banks.active.channels.get i).valid = true →
        ((s.channels.get i).value = .unseen ∨ ∃ m, (s.channels.get i).value = .seen .stale m) →
        u.channels.get i = ⟨(s.channels.get i).value, (s.channels.get i).misses, false⟩ ∧ s.KeepsUnitsOf u i)
    ∧ (∀ i, (s.banks.active.channels.get i).valid = false → u.channels.get i = s.channels.get i ∧ s.KeepsUnitsOf u i))
  ∧ (∀ (s : State) (st : Stamp) (rest : List Event), s.burst = none → s.intake = .cycleLost st :: rest → ∃ u,
    exec (.takeCycleLost .stepwise) s = .next u
    ∧ (∀ i f m, (s.banks.active.channels.get i).valid = true → (s.channels.get i).value = .seen f m → f ≠ .stale →
        u.channels.get i = ⟨.seen .stale m, (s.channels.get i).misses, false⟩ ∧ s.LosesUnitsOf u i)
    ∧ (∀ i, (s.banks.active.channels.get i).valid = true →
        ((s.channels.get i).value = .unseen ∨ ∃ m, (s.channels.get i).value = .seen .stale m) →
        u.channels.get i = ⟨(s.channels.get i).value, (s.channels.get i).misses, false⟩ ∧ s.KeepsUnitsOf u i)
    ∧ (∀ i, (s.banks.active.channels.get i).valid = false → u.channels.get i = s.channels.get i ∧ s.KeepsUnitsOf u i))

/-- The evaluation of a train. The travel is the channel's value from the origin, negated for a REVERSE train; a RUNNING train's
high-water rises to it and every boundary reached past the last one is emitted in order, as far as the count lets; the division
is ON from the last boundary for the width; the train is ENDING or IDLE at its count, and an ENDING train emits nothing and is
IDLE when its division is OFF (R79 to R82, R85). A FRAME event that is no duplicate evaluates each train whose channel it
updates, and no other, and each crowded evaluation counts (R80, R86). -/
def Obligations.TrainEvaluationFollowsTravel : Prop :=
  (∀ (e : TrainEntry) (value : Ext) (t : TrainRt), 1 ≤ e.interval → let x := t.evaluate e value
    (t.state = .idle → x = ⟨t, 0⟩)
    ∧ (∀ r, t.run = some r →
      let d := (value - r.origin).toInt
      let v : Int := if e.reverse then (if d = -140737488355328 then 140737488355327 else -d) else d
      let on : Option Nat → Prop := fun l =>
        ∃ j : Nat, l = some j ∧ ((j * e.interval : Nat) : Int) ≤ v ∧ v ≤ ((j * e.interval : Nat) : Int) + e.width - 1
      (t.state = .ending → x.divisions = 0 ∧ (x.rt.on = true ↔ on r.last)
        ∧ x.rt = { t with on := x.rt.on, state := if x.rt.on then .ending else .idle })
      ∧ (t.state = .running →
        let high := max r.highWater v.toNat
        let first := match r.last with | some j => j + 1 | none => 1
        let n := x.divisions
        let last := if n = 0 then r.last else some (first + n - 1)
        (∀ k, k < n → (first + k) * e.interval ≤ high) ∧ (e.count ≠ 0 → n ≤ e.count - t.emitted)
        ∧ (high < (first + n) * e.interval ∨ (e.count ≠ 0 ∧ e.count ≤ t.emitted + n))
        ∧ x.rt.run = some ⟨r.origin, high, last⟩ ∧ x.rt.emitted = satAdd 4294967295 t.emitted n
        ∧ x.rt.crowded = (if 1 < n then satInc 65535 t.crowded else t.crowded)
        ∧ (x.rt.on = true ↔ on last)
        ∧ x.rt.state = if e.count ≠ 0 ∧ e.count ≤ x.rt.emitted then (if x.rt.on then .ending else .idle) else .running)))
  ∧ (∀ (s : State) (id : Nat) (st : Stamp) (station : Byte) (b : BufFrame) (rest : List Event), s.burst = none →
    s.intake = .frame id station st :: rest → s.forward.find id = some b → s.isDuplicate station b.ordinal = false → ∃ u,
    exec (.takeFrameEvent .stepwise) s = .next u
    ∧ (∀ k, let te := s.banks.active.trains.get k
      let ce := s.banks.active.channels.get te.channel
      (∀ raw, te.valid = true → s.follows station te.channel = true → slotAt b.bytes ce.slot = some raw → u.trains.get k
          = ((s.trains.get k).evaluate te (nextSample ce.kind (s.channels.get te.channel).value raw b.ordinal).extended).rt)
      ∧ (te.valid = false ∨ s.follows station te.channel = false ∨ slotAt b.bytes ce.slot = none →
          u.trains.get k = s.trains.get k))
    ∧ u.counter .crowdedDivision = satAdd 4294967295 (s.counter .crowdedDivision)
        ((List.finRange 8).countP fun k => decide (1 < s.divisionsAt b station k)))

/-- A magnitude test out of FALSE or TRUE, by Figure 3-3, in exact integers; thresholds do not change (R44, R46). Out of UNKNOWN
it is primed: TRUE when the condition for becoming TRUE holds and FALSE otherwise, whatever the hysteresis, and without an edge
(R48). -/
def Obligations.MagnitudeTestsByFigure : Prop :=
  ∀ (e : WatchEntry) (w : WatchRt) (m : Sample),
    let v : Int := m.extended.toInt + m.velocity.toInt * e.lead
    let a := w.a.toInt
    let b := w.b.toInt
    let h : Int := e.hysteresis
    let t := w.evaluate e m
    t.a = w.a ∧ t.b = w.b
    ∧ (w.truth = .isFalse → e.test = .above → (t.truth = .isTrue ↔ a ≤ v) ∧ (t.truth = .isFalse ↔ v < a))
    ∧ (w.truth = .isTrue → e.test = .above → (t.truth = .isFalse ↔ v < a - h) ∧ (t.truth = .isTrue ↔ a - h ≤ v))
    ∧ (w.truth = .isFalse → e.test = .below → (t.truth = .isTrue ↔ v ≤ a) ∧ (t.truth = .isFalse ↔ a < v))
    ∧ (w.truth = .isTrue → e.test = .below → (t.truth = .isFalse ↔ a + h < v) ∧ (t.truth = .isTrue ↔ v ≤ a + h))
    ∧ (w.truth = .isFalse → e.test = .inside → (t.truth = .isTrue ↔ a ≤ v ∧ v ≤ b) ∧ (t.truth = .isFalse ↔ v < a ∨ b < v))
    ∧ (w.truth = .isTrue → e.test = .inside →
        (t.truth = .isFalse ↔ v < a - h ∨ b + h < v) ∧ (t.truth = .isTrue ↔ a - h ≤ v ∧ v ≤ b + h))
    ∧ (w.truth = .isFalse → e.test = .outside → (t.truth = .isTrue ↔ v < a ∨ b < v) ∧ (t.truth = .isFalse ↔ a ≤ v ∧ v ≤ b))
    ∧ (w.truth = .isTrue → e.test = .outside →
        (t.truth = .isFalse ↔ a + h ≤ v ∧ v ≤ b - h) ∧ (t.truth = .isTrue ↔ v < a + h ∨ b - h < v))
    ∧ (w.truth = .unknown → edgeOf w.truth t.truth = none
      ∧ (e.test = .above → (t.truth = .isTrue ↔ a ≤ v) ∧ (t.truth = .isFalse ↔ v < a))
      ∧ (e.test = .below → (t.truth = .isTrue ↔ v ≤ a) ∧ (t.truth = .isFalse ↔ a < v))
      ∧ (e.test = .inside → (t.truth = .isTrue ↔ a ≤ v ∧ v ≤ b) ∧ (t.truth = .isFalse ↔ v < a ∨ b < v))
      ∧ (e.test = .outside → (t.truth = .isTrue ↔ v < a ∨ b < v) ∧ (t.truth = .isFalse ↔ a ≤ v ∧ v ≤ b)))

/-- A bit test out of FALSE or TRUE becomes TRUE when the test holds and FALSE when it does not, whatever the hysteresis, so
every toggle is an edge (R47). Out of UNKNOWN it is primed in the same way, without an edge (R48). -/
def Obligations.BitTestsFollowTheirBits : Prop :=
  ∀ (e : WatchEntry) (w : WatchRt) (m : Sample), e.test.magnitude = false →
    let t := w.evaluate e m
    let mask := w.a.truncate 32
    (bitTestHolds e.test m.raw mask → t.truth = .isTrue) ∧ (¬ bitTestHolds e.test m.raw mask → t.truth = .isFalse)
    ∧ t.a = w.a ∧ t.b = w.b
    ∧ (bitTestHolds e.test m.raw mask → w.truth = .isFalse → edgeOf w.truth t.truth = some true)
    ∧ (¬ bitTestHolds e.test m.raw mask → w.truth = .isTrue → edgeOf w.truth t.truth = some false)
    ∧ (w.truth = .unknown → edgeOf w.truth t.truth = none)

/-- A refused action counts in ACTION_REFUSED and changes nothing else (R26); PATCH and THRESHOLD from a channel, REBASE and
TRAIN_START are refused for a channel that is neither FRESH nor HELD (R30, R35 to R37, Figure 2-5). -/
def Obligations.RefusedActionsOnlyCount : Prop :=
  ∀ (s : State) (t : Fin 48),
    (∀ i : Fin 256, act t (s.banks.active.actions.get i) s = none → s.runAction t i = s.bump .actionRefused)
    ∧ (∀ (e : ActionEntry) (c : Fin 32), (s.channels.get c).current = none →
      (e.kind = .patch → e.mode = 1 → e.aux = c → act t e s = none)
      ∧ (e.kind = .threshold → e.mode = 2 ∨ e.mode = 5 → e.aux = c → act t e s = none)
      ∧ (e.kind = .rebase → e.target = c → act t e s = none)
      ∧ (∀ k : Fin 8, e.kind = .trainStart → e.target = k → (s.banks.active.trains.get k).channel = c → act t e s = none))

/-- PULSE and LEVEL on an output line, and PATCH and UNPATCH on a patch entry: what each changes, and that it changes nothing
else. A PATCH takes the low 32 bits of its argument, or of the sum of the extended value of a FRESH or HELD channel and the
argument (R28 to R31, R97, R98, R110, R111). -/
def Obligations.LineAndPatchActions : Prop :=
  ∀ (s : State) (t : Fin 48) (e : ActionEntry),
    (∀ j : Fin 8, e.kind = .pulse → e.target = j → act t e s = some (s.withOutputs (s.outputs.set j ⟨true, e.aux⟩)))
    ∧ (∀ j : Fin 8, e.kind = .level → e.target = j → ∃ a, act t e s = some (s.withOutputs (s.outputs.set j ⟨a, 0⟩))
        ∧ (e.mode = 0 → a = true) ∧ (e.mode = 1 → a = false) ∧ (e.mode = 2 → a = !(s.outputs.get j).active))
    ∧ (∀ (i : Fin 16) (v : BitVec 32), e.kind = .patch → e.target = i →
        (e.mode = 0 ∧ v = e.argument.truncate 32 ∨ e.mode = 1 ∧ ∃ (c : Fin 32) (m : Sample), e.aux = c
          ∧ (s.channels.get c).current = some m ∧ v = (m.extended + e.argument).truncate 32) → ∃ s', act t e s = some s'
        ∧ (let o := (s.patches.get i).armed && !(s.banks.active.patches.get i).hold
          s'.patches.get i = ⟨v, true, (s.patches.get i).applied,
            if o then satInc 65535 (s.patches.get i).overruns else (s.patches.get i).overruns⟩)
        ∧ (∀ j, j ≠ i → s'.patches.get j = s.patches.get j)
        ∧ s'.counter .patchOverrun = (if (s.patches.get i).armed ∧ (s.banks.active.patches.get i).hold = false
            then satInc 4294967295 (s.counter .patchOverrun) else s.counter .patchOverrun)
        ∧ (∀ c, c ≠ .patchOverrun → s'.counter c = s.counter c)
        ∧ s' = (s.withPatches s'.patches).withCounters s'.counters)
    ∧ (∀ i : Fin 16, e.kind = .unpatch → e.target = i →
        act t e s = some (s.withPatches (s.patches.set i { s.patches.get i with armed := false })))

/-- TRAIN_START on a FRESH or HELD channel, TRAIN_STOP, TIMER_START, ENABLE, DISABLE and REBASE: what each changes (R36 to R39,
R41, R55, R74, R83 to R85, R89). TRAIN_START sets the train's record, restart or not, and derives a train start. REBASE sets the
extended value alone, shifts the origins of the channel's RUNNING and ENDING trains, and primes the valid watches on it whose
truth is known against the new projected value, with no edge. -/
def Obligations.UnitActions : Prop :=
  ∀ (s : State) (t : Fin 48) (e : ActionEntry),
    (∀ (k : Fin 8) (m : Sample), e.kind = .trainStart → e.target = k →
        (s.channels.get (s.banks.active.trains.get k).channel).current = some m →
        let te := s.banks.active.trains.get k
        act t e s = some ((s.withTrains (s.trains.set k ⟨if te.lead = true ∧ te.count = 1 then .ending else .running,
          some ⟨m.extended, 0, if te.lead then some 0 else none⟩, if te.lead then 1 else 0, te.lead,
          (s.trains.get k).crowded⟩)).derive (.trainStart k)))
    ∧ (∀ k : Fin 8, e.kind = .trainStop → e.target = k →
        let r := s.trains.get k
        (r.state = .running → r.on = false → act t e s
          = some ((s.withTrains (s.trains.set k { r with state := .idle, on := false })).derive (.trainEnd k)))
        ∧ (r.state = .running → r.on = true → act t e s = some (s.withTrains (s.trains.set k { r with state := .ending })))
        ∧ (r.state ≠ .running → act t e s = some s))
    ∧ (∀ k : Fin 4, e.kind = .timerStart → e.target = k → act t e s = some (s.withTimers (s.timers.set k ⟨true, 0⟩)))
    ∧ (∀ i : Fin 48, e.kind = .enable → e.target = i →
        act t e s = some (s.withTriggers (s.triggers.set i { s.triggers.get i with armed := true })))
    ∧ (∀ i : Fin 48, e.kind = .disable → e.target = i →
        act t e s = some (s.withTriggers (s.triggers.set i { s.triggers.get i with armed := false })))
    ∧ (∀ (c : Fin 32) (m : Sample), e.kind = .rebase → e.target = c → (s.channels.get c).current = some m → ∃ s',
        act t e s = some s' ∧ (s'.channels.get c).current = some { m with extended := e.argument }
        ∧ (∀ i, i ≠ c → s'.channels.get i = s.channels.get i)
        ∧ (s'.channels.get c).misses = (s.channels.get c).misses ∧ (s'.channels.get c).updated = (s.channels.get c).updated
        ∧ ((s'.channels.get c).value = .seen .fresh { m with extended := e.argument }
          ↔ (s.channels.get c).value = .seen .fresh m)
        ∧ (∀ w, let we := s.banks.active.watches.get w
          (we.valid = true → we.channel = c → (s.watches.get w).truth ≠ .unknown → s'.watches.get w
            = WatchRt.evaluate we { m with extended := e.argument } { s.watches.get w with truth := .unknown })
          ∧ (we.valid = false ∨ we.channel ≠ c ∨ (s.watches.get w).truth = .unknown → s'.watches.get w = s.watches.get w))
        ∧ (∀ k, let r := s.trains.get k
          ((s.banks.active.trains.get k).channel = c → r.state ≠ .idle → s'.trains.get k
            = { r with run := r.run.map fun r => { r with origin := r.origin + (e.argument - m.extended) } })
          ∧ ((s.banks.active.trains.get k).channel ≠ c ∨ r.state = .idle → s'.trains.get k = r))
        ∧ s' = ((s.withChannels s'.channels).withTrains s'.trains).withWatches s'.watches)

/-- THRESHOLD. The new value is the argument, the threshold plus the argument, or a FRESH or HELD channel's extended value plus
the argument; a load that would leave the window of an INSIDE or OUTSIDE watch wrong is refused; a load that is taken replaces
the one threshold, and a watch whose truth is known is evaluated at once with it, an edge being a derived event (R35, R52, R53).
That B - A is formed exactly is the model's choice: log 28. -/
def Obligations.ThresholdLoadsAndEvaluates : Prop :=
  ∀ (s : State) (t : Fin 48) (e : ActionEntry) (i : Fin 64) (v : Ext), e.kind = .threshold → e.target = i →
    let w := s.watches.get i
    let we := s.banks.active.watches.get i
    (e.mode = 0 ∨ e.mode = 3) ∧ v = e.argument ∨ e.mode = 1 ∧ v = w.a + e.argument ∨ e.mode = 4 ∧ v = w.b + e.argument
      ∨ (e.mode = 2 ∨ e.mode = 5) ∧ (∃ (c : Fin 32) (m : Sample), e.aux = c ∧ (s.channels.get c).current = some m
        ∧ v = m.extended + e.argument) →
    let w1 : WatchRt := if 3 ≤ e.mode then { w with b := v } else { w with a := v }
    let wrong := we.test = .inside ∧ w1.b.toInt < w1.a.toInt
      ∨ we.test = .outside ∧ (w1.b.toInt < w1.a.toInt ∨ w1.b.toInt - w1.a.toInt < 2 * (we.hysteresis : Int))
    (wrong → act t e s = none)
    ∧ (¬ wrong → w.truth = .unknown → act t e s = some (s.withWatches (s.watches.set i w1)))
    ∧ (∀ m, ¬ wrong → w.truth ≠ .unknown → (s.channels.get we.channel).current = some m →
        let w2 := w1.evaluate we m
        let loaded := s.withWatches (s.watches.set i w2)
        (edgeOf w.truth w2.truth = none → act t e s = some loaded)
        ∧ (∀ rise, edgeOf w.truth w2.truth = some rise → act t e s = some (loaded.derive (.watch i rise))))

/-- MARK, CAPTURE and TIMER_CAPTURE offer a record with the burst's stamp and the firing trigger's index, and are never refused:
a MARK with its code and its argument (R33), a CAPTURE with the channel, its state and, but for UNSEEN, its values as they stand
(R32), a TIMER_CAPTURE with the timer's elapsed count and state as they stand, which are 0 and RUNNING after a TIMER_START of
the timer (R34). -/
def Obligations.RecordActionsOfferTheirRecords : Prop :=
  ∀ (s : State) (t : Fin 48) (e : ActionEntry) (b : Burst), s.burst = some b →
    (e.kind = .mark → act t e s = some (s.offerRecord b.stamp (.mark t e.aux e.argument)))
    ∧ (∀ c : Fin 32, e.kind = .capture → e.target = c →
        act t e s = some (s.offerRecord b.stamp (.capture t c (s.channels.get c).value)))
    ∧ (∀ k : Fin 4, e.kind = .timerCapture → e.target = k →
        act t e s = some (s.offerRecord b.stamp (.timer t k (s.timers.get k).elapsed (s.timers.get k).running)))
    ∧ (∀ (k : Fin 4) (x : ActionEntry), x.kind = .timerStart → x.target = k → e.kind = .timerCapture → e.target = k → ∃ u,
        act t x s = some u ∧ act t e u = some (u.offerRecord b.stamp (.timer t k 0 true)))

/-- TIMER_STOP stops a running timer with its count kept, so that its expiry does not come, leaves a stopped one, withdraws no
queued event, and is never refused (R40). -/
def Obligations.TimerStopKeepsTheCount : Prop :=
  ∀ (s : State) (t : Fin 48) (e : ActionEntry) (k : Fin 4), e.kind = .timerStop → e.target = k → ∃ s',
    act t e s = some s' ∧ s'.timers.get k = ⟨false, (s.timers.get k).elapsed⟩ ∧ s'.timerDue k = false
    ∧ s'.intake = s.intake ∧ ((s.timers.get k).running = false → s'.timers.get k = s.timers.get k)

/-- A record offered is admitted at the tail with the next sequence number and the gap that is owed when the queue has room for
its kind (R121, R123). Another is lost: REPORT_LOST and the pending gap rise, and a clear REPORT_LOSS is set, its own FAULT
record being admitted when fewer than 96 records are held and lost in turn otherwise (R122). -/
def Obligations.RecordsAreAdmittedOrLost : Prop :=
  ∀ (s : State) (st : Stamp) (b : RecordBody),
    let room := s.report.records.length < 92 ∨ (b.code = 4 ∧ s.report.records.length < 96)
    (room → s.offerRecord st b = s.withReport { s.report with
      records := s.report.records ++ [⟨s.report.nextSeq, st, if s.report.gap = 0 then none else some s.report.gap, b, none⟩]
      nextSeq := s.report.nextSeq + 1#32
      gap := 0 })
    ∧ (¬ room → s.flag reportLoss = true → s.offerRecord st b
        = (s.bump .reportLost).withReport { s.report with gap := satInc 65535 s.report.gap })
    ∧ (¬ room → s.flag reportLoss = false → let t := s.offerRecord st b
        t.flag reportLoss = true ∧ (t.faults.get reportLoss).raises = satInc 65535 (s.faults.get reportLoss).raises
        ∧ (∀ k, k ≠ reportLoss → t.faults.get k = s.faults.get k)
        ∧ (s.report.records.length < 96 → t.counter .reportLost = satInc 4294967295 (s.counter .reportLost)
          ∧ t.report = { s.report with
              records := s.report.records
                ++ [⟨s.report.nextSeq, s.stampNow, some (satInc 65535 s.report.gap), .fault reportLoss b.code, none⟩]
              nextSeq := s.report.nextSeq + 1#32
              gap := 0 })
        ∧ (96 ≤ s.report.records.length →
          t.counter .reportLost = satInc 4294967295 (satInc 4294967295 (s.counter .reportLost))
          ∧ t.report = { s.report with gap := satInc 65535 (satInc 65535 s.report.gap) })
        ∧ (s.engine = .running → s.inDisarmSet reportLoss = true → t.engine = .disarmed)
        ∧ (s.engine ≠ .running ∨ s.inDisarmSet reportLoss = false → t.engine = s.engine))

/-- Raising a fault kind other than REPORT_LOSS sets its flag and counts the raise, drives FAULTN low, offers a FAULT record
with the kind, the detail and the stamp of that moment when the flag was clear and none when it was set, and disarms a RUNNING
engine whose disarm set has the kind, with the cleanup: trains IDLE, timers STOPPED, patches and triggers disarmed (R154, R158,
R159). A FAULT record refused at 96 records is lost as any other (R121, R122). -/
def Obligations.FaultRaiseSetsFlagAndDisarms : Prop :=
  ∀ (s : State) (k : Fin 6) (d : Nat), k ≠ reportLoss →
    let t := s.raiseFault k d
    t.flag k = true ∧ (t.faults.get k).raises = satInc 65535 (s.faults.get k).raises ∧ t.faultn = false
    ∧ (s.flag k = true → t.report = s.report)
    ∧ (s.flag k = false → s.report.records.length < 96 → t.report = { s.report with
        records := s.report.records
          ++ [⟨s.report.nextSeq, s.stampNow, if s.report.gap = 0 then none else some s.report.gap, .fault k d, none⟩]
        nextSeq := s.report.nextSeq + 1#32
        gap := 0 })
    ∧ (s.flag k = false → 96 ≤ s.report.records.length → t.flag reportLoss = true
      ∧ t.report = { s.report with
        gap := if s.flag reportLoss then satInc 65535 s.report.gap else satInc 65535 (satInc 65535 s.report.gap) })
    ∧ (s.engine = .running → s.inDisarmSet k = true → t.engine = .disarmed
        ∧ (∀ j, (t.trains.get j).state = .idle) ∧ (∀ j, (t.timers.get j).running = false)
        ∧ (∀ j, (t.patches.get j).armed = false) ∧ (∀ j, (t.triggers.get j).armed = false))
    ∧ (s.engine ≠ .running → t.engine = s.engine)

/-- SESSION_OPEN: granted when the session is absent, refreshed for its holder, OWNED otherwise (R169). A lease expiry that is
due at the refresh does not come: the model's reading, log 5. -/
def Obligations.SessionOpenGrantsOrRefuses : Prop :=
  ∀ (s : State) (q : Request) (rest : List Request), s.Ready q rest 0x01#8 → q.body = [] →
    let lease := beBytes 2 s.banks.active.settings.lease
    let r := s.responseTo q stOk lease
    (s.agent.session = none → exec .sessionOpen s = .next (s.withAgent { s.agent with
        inbox := rest, session := some ⟨q.source, q.tag, 0, false⟩, responses := s.agent.responses ++ [r]
        cache := some ⟨r.seq, r⟩ }))
    ∧ (s.agent.isHolder q = true → exec .sessionOpen s = .next (s.withAgent (s.agent.servedHolder rest r)))
    ∧ (∀ h, s.agent.session = some h → h.isOf q = false → exec .sessionOpen s
        = .next (s.withAgent (s.agent.servedOpen q rest (s.responseTo q stOwned [h.station]))))

/-- SESSION_CLOSE from the holder ends the session, empties the cache, is answered OK and is not cached; from any other it is
answered NO_SESSION and changes nothing else, so a repeat of a close is answered NO_SESSION (R170). A SESSION_CLOSE with a body
is answered MALFORMED, and that answer is not cached either (R165, R172). That the lease restarts at a MALFORMED body is the
model's reading: log 18. -/
def Obligations.SessionCloseEndsTheSession : Prop :=
  ∀ (s : State) (q : Request) (rest : List Request), s.Ready q rest 0x02#8 →
    (s.agent.isHolder q = true → q.body = [] → exec .sessionClose s = .next (s.withAgent { s.agent with
      inbox := rest, session := none, responses := s.agent.responses ++ [s.responseTo q stOk []], cache := none }))
    ∧ (s.agent.isHolder q = true → q.body ≠ [] → exec .sessionClose s = .next (s.withAgent { s.agent with
      inbox := rest, session := s.agent.session.map Session.restart
      responses := s.agent.responses ++ [s.responseTo q stMalformed []] }))
    ∧ (s.agent.isHolder q = false → exec .sessionClose s = .next (s.withAgent { s.agent with
      inbox := rest, responses := s.agent.responses ++ [s.responseTo q stNoSession []] }))

/-- The open reads answer with their bodies and change nothing but the Agent (R161, R163, R174). COUNTER_READ with clear returns
the counters and raise counts as they stood and sets each to 0; flags and the pending gap stay (R163). The layout of the bodies
is in part the model's: log 9. What STATUS_READ gives as a stopped report timer is the model's reading: log 29. -/
def Obligations.StatusFaultAndCounterReads : Prop :=
  ∀ (s : State) (q : Request) (rest : List Request),
    (s.Ready q rest 0x03#8 → q.body = [] → exec .statusRead s
      = .next (s.withAgent (s.agent.servedOpen q rest
          (s.responseTo q stOk (s.withAgent { s.agent with inbox := rest }).statusBody))))
    ∧ (s.Ready q rest 0x13#8 → q.body = [] → exec .faultRead s
      = .next (s.withAgent (s.agent.servedOpen q rest (s.responseTo q stOk s.faultBody))))
    ∧ (s.Ready q rest 0x15#8 → q.body = [0#8] → exec .counterRead s
      = .next (s.withAgent (s.agent.servedOpen q rest (s.responseTo q stOk s.counterBody))))
    ∧ (s.ReadyHeld q rest 0x15#8 → q.body = [1#8] → ∃ t, exec .counterReadClear s = .next t
      ∧ t.agent = s.agent.servedHolder rest (s.responseTo q stOk s.counterBody)
      ∧ (∀ c, t.counter c = 0) ∧ (∀ k, t.faults.get k = ⟨(s.faults.get k).flag, 0⟩)
      ∧ t.report = s.report ∧ t.engine = s.engine ∧ t.banks = s.banks ∧ t.triggers = s.triggers ∧ t.link = s.link)

/-- TABLE_READ answers the entries asked for from the bank asked for, and RUNTIME_READ the runtime of the unit asked for, each
within its range and, for triggers, between two firings, waiting inside one (R22, R142, R175). A RUNTIME_READ of no unit is
answered MALFORMED and one out of range RANGE, at once (R167, R175), MALFORMED where both apply, which is the model's choice:
log 27. The layout of the bodies is in part the model's: log 9. That a claim is taken wherever no firing is in hand is in part
the model's choice: log 26. -/
def Obligations.TableAndRuntimeReadsAnswer : Prop :=
  (∀ (s : State) (q : Request) (rest : List Request) (x first count : Byte), 1 ≤ count.toNat → count.toNat ≤ 8 →
    (∀ (code : Byte) (t : TableId), s.Ready q rest 0x05#8 → q.body = [x, code, first, count] → x.toNat ≤ 1 →
      TableId.ofCode code = some t → first.toNat + count.toNat ≤ t.size → exec .tableRead s
        = .next (s.withAgent (s.agent.servedOpen q rest (s.responseTo q stOk
            ((List.range count.toNat).flatMap fun k =>
              (if x = 0#8 then s.banks.active else s.banks.staging).read t (first.toNat + k))))))
    ∧ (∀ n, s.Ready q rest 0x0F#8 → q.body = [x, first, count] → unitSize x.toNat = some n →
        first.toNat + count.toNat ≤ n → x ≠ 3#8 ∨ s.ClaimFree → exec .runtimeRead s
          = .next (s.withAgent (s.agent.servedOpen q rest (s.responseTo q stOk (s.runtimeBody x.toNat first.toNat count.toNat)))))
    ∧ (s.Ready q rest 0x0F#8 → q.body = [3#8, first, count] → first.toNat + count.toNat ≤ 48 → s.midFiring = true →
        exec .runtimeRead s = .next (s.withAgent { s.agent with inbox := rest, hold := some q })))
  ∧ (∀ (s : State) (q : Request) (rest : List Request) (x first count : Byte), s.Ready q rest 0x0F#8 →
    q.body = [x, first, count] →
    (unitSize x.toNat = none → exec .runtimeRead s
      = .next (s.withAgent (s.agent.servedOpen q rest (s.responseTo q stMalformed []))))
    ∧ (∀ n, unitSize x.toNat = some n → count.toNat = 0 ∨ 8 < count.toNat ∨ n < first.toNat + count.toNat →
        exec .runtimeRead s = .next (s.withAgent (s.agent.servedOpen q rest (s.responseTo q stRange [])))))

/-- TABLE_WRITE: BUSY while a commit is PENDING; a body that reads and lies in range is written into STAGING alone; otherwise
MALFORMED or RANGE and nothing is written (R140, R147). Which bodies are MALFORMED is in part the model's: log 8, and for entries
past the end of the Line Table log 30. That
the lease restarts at a MALFORMED body is the model's reading: log 18. -/
def Obligations.TableWriteWritesStaging : Prop :=
  ∀ (s : State) (q : Request) (rest : List Request), s.ReadyHeld q rest 0x04#8 →
    (s.banks.commitPending = true → exec .tableWrite s
      = .next (s.withAgent (s.agent.servedHolder rest (s.responseTo q stBusy []))))
    ∧ (s.banks.commitPending = false → readTableWrite q.body = none → exec .tableWrite s
      = .next (s.withAgent (s.agent.servedHolder rest (s.responseTo q stMalformed []))))
    ∧ (∀ w, s.banks.commitPending = false → readTableWrite q.body = some w → w.inRange = false → exec .tableWrite s
      = .next (s.withAgent (s.agent.servedHolder rest (s.responseTo q stRange []))))
    ∧ (∀ w, s.banks.commitPending = false → readTableWrite q.body = some w → w.inRange = true → exec .tableWrite s
      = .next ((s.withBanks { s.banks with staging := s.banks.staging.writeAll w.table w.first w.entries }).withAgent
          (s.agent.servedHolder rest (s.responseTo q stOk []))))

/-- COMMIT: BUSY while PENDING; INVALID with the first failure; PENDING when the tracker is LOCKED; swapped in at once when it
is not and no burst is in progress, with the runtime of every table as Figure 9-14 gives, and held when one is, until the
burst's end makes the swap and answers (R143, R145 to R149). Which of several clashing pairs is the first failure is the model's
choice: log 19. That the answer to a COMMIT that waited is cached for the holder of that moment alone is the model's reading:
log 18. The layout of the bodies is in part the model's: log 9. What the report timer stands at after a swap that stops it is the
model's reading, log 29, and so is that a report timeout which was due then does not come, log 5. -/
def Obligations.CommitByTrackerState : Prop :=
  (∀ (s : State) (q : Request) (rest : List Request), s.ReadyHeld q rest 0x06#8 → q.body = [] →
    (s.banks.commitPending = true → exec .commit s
      = .next (s.withAgent (s.agent.servedHolder rest (s.responseTo q stBusy []))))
    ∧ (∀ f, s.banks.commitPending = false → s.banks.staging.failure = some f → exec .commit s
      = .next (s.withAgent (s.agent.servedHolder rest
          (s.responseTo q stInvalid (byteOf f.table ++ byteOf f.index ++ byteOf f.reason)))))
    ∧ (∀ g, s.banks.commitPending = false → s.banks.staging.failure = none → s.tracker.state = .locked g → exec .commit s
      = .next ((s.withBanks { s.banks with commitPending := true }).withAgent
          (s.agent.servedHolder rest (s.responseTo q stOk (flagByte true ++ beBytes 2 s.banks.generation)))))
    ∧ (s.banks.commitPending = false → s.banks.staging.failure = none → (∀ g, s.tracker.state ≠ .locked g) → s.burst = none →
        ∃ t, exec .commit s = .next t ∧ t.agent.inbox = rest
          ∧ t.banks = { active := s.banks.staging, staging := s.banks.staging, commitPending := false, outcome := some .swapped
                        generation := if s.banks.generation = 65535 then 1 else s.banks.generation + 1 }
          ∧ t.agent.responses.length = s.agent.responses.length + 1
          ∧ t.tracker = s.tracker ∧ t.link = s.link ∧ t.now = s.now
          ∧ (s.intake.length ≤ 12 → s.SwapCarries t))
    ∧ (s.banks.commitPending = false → s.banks.staging.failure = none → (∀ g, s.tracker.state ≠ .locked g) →
        s.burst.isSome = true → exec .commit s = .next (s.withAgent
          { s.agent with inbox := rest, session := s.agent.session.map Session.restart, hold := some q })))
  ∧ (∀ (s : State) (q : Request) (b : Burst), s.agent.hold = some q → q.kind? = some 0x06#8 → s.burst = some b →
    b.firing = none → b.pending = [] → b.carriesSwap = false ∨ s.banks.commitPending = false →
      let u := match b.frame with | some id => s.patchAndRelease id | none => s
      let generation := if s.banks.generation = 65535 then 1 else s.banks.generation + 1
      ∃ t, s.burstWork = t ∧ t.burst = none
        ∧ t.banks = { active := s.banks.staging, staging := s.banks.staging, commitPending := false, outcome := some .swapped
                      generation := generation }
        ∧ t.agent = s.agent.servedWaiting q (s.responseTo q stOk (flagByte false ++ beBytes 2 generation))
        ∧ t.tracker = s.tracker ∧ t.link = s.link ∧ t.now = s.now ∧ (s.intake.length ≤ 12 → u.SwapCarries t))

/-- COMMIT_ABORT: the commit is NONE with outcome ABORTED when it was PENDING, and STAGING is kept; WRONG_STATE otherwise
(R147). -/
def Obligations.CommitAbortKeepsStaging : Prop :=
  ∀ (s : State) (q : Request) (rest : List Request), s.ReadyHeld q rest 0x07#8 → q.body = [] →
    (s.banks.commitPending = true → ∃ t, exec .commitAbort s = .next t
      ∧ t.banks = { s.banks with commitPending := false, outcome := some .aborted }
      ∧ t.agent = s.agent.servedHolder rest (s.responseTo q stOk [])
      ∧ (∀ b, t.burst = some b → b.carriesSwap = false) ∧ t.triggers = s.triggers ∧ t.engine = s.engine)
    ∧ (s.banks.commitPending = false → exec .commitAbort s
      = .next (s.withAgent (s.agent.servedHolder rest (s.responseTo q stWrongState []))))

/-- ENGINE_RUN outside a firing: RUNNING from STOPPED, from RUNNING, and from DISARMED when no kind of the disarm set is set;
FAULTED with nothing changed otherwise; triggers are not armed by it (R155). ENGINE_STOP outside a firing: the engine is
STOPPED; out of RUNNING the cleanup is made and trigger states are kept; out of DISARMED and STOPPED nothing else changes (R154,
R156). Inside a firing the requests that claim the Trigger Unit wait; a burst step after which no firing is in hand takes the
claim that waits and answers its request, whichever of the seven it is, and with it a broadcast stop that waits, in either order
(R17, R22, R151, R155 to R157, R167, R173). That the answer to a request that waited is cached for the holder of that moment
alone is the model's reading: log 18. The layout of the body is the model's: log 9. That a claim is taken wherever no firing is in
hand is in part the model's choice: log 22, log 26. -/
def Obligations.EngineRunAndStop : Prop :=
  (∀ (s : State) (q : Request) (rest : List Request), q.body = [] →
    (s.ClaimFree →
    (s.ReadyHeld q rest 0x08#8 → (s.engine ≠ .disarmed ∨ ∀ k, s.inDisarmSet k = true → s.flag k = false) → exec .engineRun s
      = .next ((s.withEngine .running).withAgent (s.agent.servedHolder rest (s.responseTo q stOk [1#8]))))
    ∧ (s.ReadyHeld q rest 0x08#8 → ∀ k, s.engine = .disarmed → s.inDisarmSet k = true → s.flag k = true → exec .engineRun s
      = .next (s.withAgent (s.agent.servedHolder rest (s.responseTo q stFaulted [2#8]))))
    ∧ (s.ReadyHeld q rest 0x09#8 → s.engine ≠ .running → exec .engineStop s
      = .next ((s.withEngine .stopped).withAgent (s.agent.servedHolder rest (s.responseTo q stOk []))))
    ∧ (s.ReadyHeld q rest 0x09#8 → s.engine = .running → ∃ t, exec .engineStop s = .next t ∧ t.engine = .stopped
        ∧ t.agent = s.agent.servedHolder rest (s.responseTo q stOk [])
        ∧ t.triggers = s.triggers ∧ (∀ k, t.trains.get k = { s.trains.get k with state := .idle, on := false })
        ∧ (∀ k, t.timers.get k = ⟨false, (s.timers.get k).elapsed⟩)
        ∧ (∀ i, t.patches.get i = { s.patches.get i with armed := false })
        ∧ (∀ j, t.outputs.get j = OutputRt.safe (s.banks.active.outputs.get j) (s.outputs.get j))
        ∧ (∀ b, t.burst = some b → b.pending = [] ∧ b.firing = none)
        ∧ t.channels = s.channels ∧ t.watches = s.watches ∧ t.report = s.report ∧ t.banks = s.banks ∧ t.faults = s.faults))
    ∧ (s.midFiring = true →
      ∀ c k, (c, k) ∈ [(Instr.engineRun, 0x08#8), (.engineStop, 0x09#8), (.engineReset, 0x0A#8), (.configClear, 0x0B#8)] →
        s.ReadyHeld q rest k → exec c s = .next (s.withAgent
          { s.agent with inbox := rest, session := s.agent.session.map Session.restart, hold := some q })))
  ∧ (∀ (s : State) (q : Request) (k : Byte), s.agent.hold = some q → q.kind? = some k → k ≠ 0x06#8 →
    let u := s.burstWork
    let after := fun st body => u.agent.servedWaiting q (u.responseTo q st body)
    (u.midFiring = true → s.burstStep = u)
    ∧ (u.midFiring = false → u.agent.stopClaim = false →
      (k = 0x08#8 → (u.engine ≠ .disarmed ∨ ∀ j, u.inDisarmSet j = true → u.flag j = false) →
        s.burstStep = (u.withEngine .running).withAgent (after stOk [1#8]))
      ∧ (∀ j, k = 0x08#8 → u.engine = .disarmed → u.inDisarmSet j = true → u.flag j = true →
        s.burstStep = u.withAgent (after stFaulted [2#8]))
      ∧ (k = 0x09#8 → s.burstStep = u.stopEngine.withAgent (after stOk []) ∧ s.burstStep.engine = .stopped)
      ∧ (k = 0x0A#8 → s.burstStep = u.engineReset.withAgent (after stOk []))
      ∧ (k = 0x0B#8 → s.burstStep.agent = after stOk [] ∧ s.burstStep.engine = .stopped ∧ s.burstStep.banks.active = Bank.empty)
      ∧ (k = 0x0C#8 → u.engine = .disarmed → s.burstStep = u.withAgent (after stFaulted []))
      ∧ (∀ armed : Bool, (k = 0x0C#8 ∧ armed = true ∧ u.engine ≠ .disarmed) ∨ (k = 0x0D#8 ∧ armed = false) →
          ∀ l, readTriggerSet q.body = some l → s.burstStep = (u.withTriggers s.burstStep.triggers).withAgent (after stOk [])
            ∧ ∀ i, s.burstStep.triggers.get i = if (u.banks.active.triggers.get i).valid = true ∧ i.val ∈ l
                then { u.triggers.get i with armed := armed } else u.triggers.get i)
      ∧ (∀ first count, k = 0x0F#8 → q.body = [3#8, first, count] → 1 ≤ count.toNat → count.toNat ≤ 8 →
          first.toNat + count.toNat ≤ 48 →
          s.burstStep = u.withAgent (after stOk (u.runtimeBody 3 first.toNat count.toNat))))
    ∧ (u.midFiring = false → u.agent.stopClaim = true → k ∈ [0x08#8, 0x09#8, 0x0A#8, 0x0B#8, 0x0C#8, 0x0D#8, 0x0F#8] →
      s.burstStep.agent.hold = none ∧ s.burstStep.agent.stopClaim = false
        ∧ s.burstStep.agent.responses.length = u.agent.responses.length + 1
        ∧ (k ≠ 0x08#8 → s.burstStep.engine = .stopped)))

/-- What an engine reset leaves, alone and as the second half of CONFIG_CLEAR, by Figure 10-3: STOPPED, flags clear and raise
counts kept; Intake Queue empty, the frames of its FRAME events and of the burst in progress released unedited (R4, R19); units at
their start, watches UNKNOWN with their thresholds as configured (R42); Report Queue empty, sequence and frame numbers and pending
gap 0, the epoch one up, the reporter as the Settings of the ACTIVE bank say, the report timer stopped, its value standing (R125,
R126, R135; the value is the model's reading, log 29, and so is that a timeout which was due does not come, log 5); the answer
placed and cached (R151, R157). ENGINE_RESET keeps banks and input lines; CONFIG_CLEAR empties the banks and accepts a pending
input change at once, without an event, as no trigger waits for it (R7, R105, R151). That a claim is taken wherever no firing is
in hand is in part the model's choice: log 26. -/
def Obligations.EngineResetAndConfigClear : Prop :=
  ∀ (s : State) (q : Request) (rest : List Request) (c : Instr), q.body = [] → s.ClaimFree →
    ((c = .engineReset ∧ s.ReadyHeld q rest 0x0A#8) ∨ (c = .configClear ∧ s.ReadyHeld q rest 0x0B#8)) → ∃ t,
    exec c s = .next t ∧ t.engine = .stopped ∧ t.intake = [] ∧ t.burst = none
    ∧ t.forward = { s.forward with frames := s.forward.frames.map fun f =>
        if f.id ∈ s.intake.filterMap Event.frameId ∨ s.burst.bind Burst.frame = some f.id then { f with held := false } else f }
    ∧ t.report.records = [] ∧ t.report.nextSeq = 0#32 ∧ t.report.nextFrame = 0#16 ∧ t.report.gap = 0
    ∧ t.report.epoch = s.report.epoch + 1#8 ∧ t.report.resend = 0
    ∧ t.report.timer = { s.report.timer with running := false } ∧ t.report.timeoutDue = false
    ∧ t.report.state = (if t.banks.active.settings.markers then .active else .polled)
    ∧ (∀ k, t.faults.get k = ⟨false, (s.faults.get k).raises⟩)
    ∧ (∀ i, t.channels.get i = {}) ∧ (∀ k, t.trains.get k = {}) ∧ (∀ k, t.timers.get k = {}) ∧ (∀ j, t.outputs.get j = {})
    ∧ (∀ i, let e := t.banks.active.watches.get i
        t.watches.get i = if e.valid then ⟨.unknown, e.a, e.b⟩ else {})
    ∧ (∀ i, t.triggers.get i
        = { armed := (t.banks.active.triggers.get i).valid && (t.banks.active.triggers.get i).startsArmed })
    ∧ (∀ i, t.patches.get i = {}) ∧ t.counters = s.counters ∧ t.now = s.now ∧ t.tracker = s.tracker ∧ t.link = s.link
    ∧ t.agent = s.agent.servedHolder rest (s.responseTo q stOk [])
    ∧ (c = .engineReset → t.banks.active = s.banks.active ∧ t.banks.staging = s.banks.staging
      ∧ t.banks.generation = s.banks.generation ∧ t.inputs = s.inputs)
    ∧ (c = .configClear → t.banks.active = Bank.empty ∧ t.banks.staging = Bank.empty ∧ t.banks.generation = 0
      ∧ ∀ k, ((s.inputs.get k).since = none → t.inputs.get k = s.inputs.get k)
        ∧ ∀ m, (s.inputs.get k).since = some m → m ≤ s.now →
          t.inputs.get k = ⟨(s.inputs.get k).pin, (s.inputs.get k).pin, none⟩)
    ∧ (s.banks.commitPending = true → t.banks.outcome = some .cancelled ∧ t.banks.commitPending = false)
    ∧ (s.banks.commitPending = false → t.banks.outcome = s.banks.outcome ∧ t.banks.commitPending = false)

/-- TRIGGER_ENABLE and TRIGGER_DISABLE outside a firing set every named valid trigger and no other; an enable in DISARMED is
answered FAULTED and changes nothing; inside a firing both wait (R17). TRIGGER_FIRE in RUNNING with room queues a FIRE_REQUEST
with the set named; WRONG_STATE and QUEUE_FULL otherwise (R16), WRONG_STATE where both apply; an index above 47 is answered
RANGE and changes nothing (R16, R17), for TRIGGER_FIRE ahead of the other two: the two orders are the model's choice, log 27, and
that such a set of more than 48 indices is answered RANGE too is its reading, log 8.
That a claim is taken wherever no firing is in hand is in part the model's choice: log 26. -/
def Obligations.TriggerRequests : Prop :=
  (∀ (s : State) (q : Request) (rest : List Request) (l : List Nat), readTriggerSet q.body = some l → 1 ≤ l.length →
    l.length ≤ 48 → (∀ i ∈ l, i < 48) →
    (s.ReadyHeld q rest 0x0C#8 → s.ClaimFree → s.engine ≠ .disarmed → ∃ t, exec .triggerEnable s = .next t
      ∧ t = (s.withTriggers t.triggers).withAgent (s.agent.servedHolder rest (s.responseTo q stOk []))
      ∧ ∀ i, t.triggers.get i = if (s.banks.active.triggers.get i).valid = true ∧ i.val ∈ l
          then { s.triggers.get i with armed := true } else s.triggers.get i)
    ∧ (s.ReadyHeld q rest 0x0C#8 → s.ClaimFree → s.engine = .disarmed → exec .triggerEnable s
        = .next (s.withAgent (s.agent.servedHolder rest (s.responseTo q stFaulted []))))
    ∧ (s.ReadyHeld q rest 0x0D#8 → s.ClaimFree → ∃ t, exec .triggerDisable s = .next t
      ∧ t = (s.withTriggers t.triggers).withAgent (s.agent.servedHolder rest (s.responseTo q stOk []))
      ∧ ∀ i, t.triggers.get i = if (s.banks.active.triggers.get i).valid = true ∧ i.val ∈ l
          then { s.triggers.get i with armed := false } else s.triggers.get i)
    ∧ (∀ c k, (c, k) ∈ [(Instr.triggerEnable, 0x0C#8), (.triggerDisable, 0x0D#8)] → s.midFiring = true →
        s.ReadyHeld q rest k → exec c s = .next (s.withAgent
          { s.agent with inbox := rest, session := s.agent.session.map Session.restart, hold := some q }))
    ∧ (s.ReadyHeld q rest 0x0E#8 → s.engine = .running → s.intake.length < 16 → ∃ m, (∀ i : Fin 48, m.getLsbD i = true ↔ i.val ∈ l)
      ∧ exec .triggerFire s = .next ((s.withIntake (s.intake ++ [.fireRequest m s.stampNow])).withAgent
          (s.agent.servedHolder rest (s.responseTo q stOk []))))
    ∧ (s.ReadyHeld q rest 0x0E#8 → s.engine ≠ .running → exec .triggerFire s
        = .next (s.withAgent (s.agent.servedHolder rest (s.responseTo q stWrongState []))))
    ∧ (s.ReadyHeld q rest 0x0E#8 → s.engine = .running → s.intake.length = 16 → exec .triggerFire s
        = .next (s.withAgent (s.agent.servedHolder rest (s.responseTo q stQueueFull [])))))
  ∧ (∀ (s : State) (q : Request) (rest : List Request) (l : List Nat), readTriggerSet q.body = some l → (∃ i ∈ l, 48 ≤ i) →
    ∀ c k, (c, k) ∈ [(Instr.triggerEnable, 0x0C#8), (.triggerDisable, 0x0D#8), (.triggerFire, 0x0E#8)] → s.ReadyHeld q rest k →
      exec c s = .next (s.withAgent (s.agent.servedHolder rest (s.responseTo q stRange []))))

/-- REPORT_ACK of an outstanding frame of the current epoch removes the records of that frame and the older ones, restarts the
timer at 0, stops it there when no frame remains outstanding, and clears the resend count; any other is answered STALE_ACK and
changes nothing (R129). That the stopped timer stands at 0 is the model's reading: log 29. -/
def Obligations.AcknowledgeRemovesTheWindow : Prop :=
  ∀ (s : State) (q : Request) (rest : List Request) (e n1 n0 : Byte), s.ReadyHeld q rest 0x10#8 → q.body = [e, n1, n0] →
    let n := BitVec.ofNat 16 (beNat [n1, n0])
    (∀ l, e = s.report.epoch → s.report.covered n = some l → ∃ t, exec .reportAck s = .next t
      ∧ t = (s.withReport t.report).withAgent (s.agent.servedHolder rest
          (s.responseTo q stOk (byteOf (s.report.records.countP (Record.sentIn l)))))
      ∧ t.report.records = s.report.records.filter (fun d => !d.sentIn l) ∧ t.report.resend = 0
      ∧ t.report.timer = ⟨decide (∃ d ∈ t.report.records, d.sent ≠ none), 0⟩
      ∧ t.report.state = s.report.state ∧ t.report.epoch = s.report.epoch ∧ t.report.nextSeq = s.report.nextSeq
      ∧ t.report.nextFrame = s.report.nextFrame ∧ t.report.gap = s.report.gap)
    ∧ (e ≠ s.report.epoch ∨ n ∉ s.report.outstanding → exec .reportAck s
        = .next (s.withAgent (s.agent.servedHolder rest (s.responseTo q stStaleAck []))))

/-- REPORT_READ in POLLED or HALTED removes the oldest records up to the maximum and answers with them and the number left; in
ACTIVE it is answered WRONG_STATE; a maximum of 0 or above 8 is answered RANGE (R133), in ACTIVE too, which is the model's
choice: log 27. REPORT_RESUME takes HALTED to ACTIVE with resend count 0, and is answered WRONG_STATE elsewhere (R132). The
layout of the body is the model's: log 9. -/
def Obligations.ReportReadAndResume : Prop :=
  ∀ (s : State) (q : Request) (rest : List Request),
    (∀ n : Byte, s.ReadyHeld q rest 0x11#8 → q.body = [n] → 1 ≤ n.toNat → n.toNat ≤ 8 →
      (s.report.state ≠ .active → exec .reportRead s
        = .next ((s.withReport { s.report with records := s.report.records.drop n.toNat }).withAgent
            (s.agent.servedHolder rest (s.responseTo q stOk ((s.report.records.take n.toNat).flatMap Record.bytes
              ++ byteOf (s.report.records.length - n.toNat))))))
      ∧ (s.report.state = .active → exec .reportRead s
        = .next (s.withAgent (s.agent.servedHolder rest (s.responseTo q stWrongState [])))))
    ∧ (∀ n : Byte, s.ReadyHeld q rest 0x11#8 → q.body = [n] → n.toNat = 0 ∨ 8 < n.toNat →
      exec .reportRead s = .next (s.withAgent (s.agent.servedHolder rest (s.responseTo q stRange []))))
    ∧ (s.ReadyHeld q rest 0x12#8 → q.body = [] →
      (s.report.state = .halted → exec .reportResume s
        = .next ((s.withReport { s.report with state := .active, resend := 0 }).withAgent
            (s.agent.servedHolder rest (s.responseTo q stOk []))))
      ∧ (s.report.state ≠ .halted → exec .reportResume s
        = .next (s.withAgent (s.agent.servedHolder rest (s.responseTo q stWrongState [])))))

/-- FAULT_CLEAR clears every named kind whose cause does not persist, keeps the others and every raise count, and answers OK or
CAUSE_PRESENT (R160). The layout of the body is the model's: log 9. -/
def Obligations.FaultClearKeepsPresentCauses : Prop :=
  ∀ (s : State) (q : Request) (rest : List Request) (v : Byte), s.ReadyHeld q rest 0x14#8 → q.body = [v] → 1 ≤ v.toNat →
    v.toNat ≤ 63 → ∃ t st, exec .faultClear s = .next t
    ∧ t = (s.withFaults t.faults).withAgent (s.agent.servedHolder rest (s.responseTo q st t.flagBytes))
    ∧ (∀ k : Fin 6, t.faults.get k =
        ⟨(s.faults.get k).flag && !(v.getLsbD k && !s.causePersists k), (s.faults.get k).raises⟩)
    ∧ ((∃ k : Fin 6, v.getLsbD k = true ∧ s.flag k = true ∧ s.causePersists k = true) → st = stCausePresent)
    ∧ ((∀ k : Fin 6, v.getLsbD k = true → t.flag k = false) → st = stOk)

/-- A request that needs the session and does not come from the holder is answered NO_SESSION and reaches no block. A request of
the holder with the cached sequence is answered from the cache, whatever its kind, known or not, and whatever its body, and the
lease restarts; the cache stays (R163, R167, R171, R172). That any row takes a request of no known kind is the model's choice:
log 24. That a COUNTER_READ asks to clear by the body 1 alone is the model's reading: log 8. -/
def Obligations.SessionAndDuplicateTests : Prop :=
  ∀ (s : State) (q : Request) (rest : List Request) (c : Instr),
    (∀ k, (c, k) ∈ sessionRows → q.fits c → s.Ready q rest k → s.agent.isHolder q = false →
      exec c s = .next (s.withAgent { s.agent with
        inbox := rest, responses := s.agent.responses ++ [s.responseTo q stNoSession []] }))
    ∧ (∀ r, s.agent.inbox = q :: rest → s.agent.hold = none → s.agent.responses.length < 4 → q.headerFault = false →
        s.agent.isHolder q = true → s.agent.duplicate q = some r →
        (∃ k, (c, k) ∈ sessionRows ++ openRows
          ∧ (q.kind? = some k ∧ q.fits c ∨ ∃ u, q.kind? = some u ∧ (u.toNat = 0 ∨ 21 < u.toNat))) →
        exec c s = .next (s.withAgent { s.agent with
          inbox := rest, responses := s.agent.responses ++ [r], session := s.agent.session.map Session.restart }))

/-- Every step keeps the queues within their sizes. -/
def Obligations.StepKeepsQueueBounds : Prop := ∀ s t : State, s.Bounded → step s = .next t → t.Bounded

/-- Every step keeps the part quiet outside RUNNING. -/
def Obligations.StepKeepsQuietOutsideRunning : Prop := ∀ s t : State, s.Quiet → step s = .next t → t.Quiet

/-- Every step keeps truths and running trains on FRESH or HELD channels. -/
def Obligations.StepKeepsTruthOnCurrentChannels : Prop := ∀ s t : State, s.Tracked → step s = .next t → t.Tracked

/-- Every step keeps a change of an input pending exactly while pin and accepted level differ, and since a moment that has been. -/
def Obligations.StepKeepsInputsExact : Prop := ∀ s t : State, s.InputsExact → step s = .next t → t.InputsExact

/-- Every step keeps SENT records to the ACTIVE reporter and the outstanding frames to 4. -/
def Obligations.StepKeepsReporterExact : Prop := ∀ s t : State, s.ReporterExact → step s = .next t → t.ReporterExact

/-- Every step keeps the counters and raise counts within their ranges. -/
def Obligations.StepKeepsCountersInRange : Prop := ∀ s t : State, s.Saturated → step s = .next t → t.Saturated

/-- Every step keeps what waits, a broadcast stop or a request, waiting on a burst in progress. Where such a claim is taken is
in part the model's choice: log 22, log 26. -/
def Obligations.StepKeepsWaitsOnABurst : Prop := ∀ s t : State, s.WaitsOnBurst → step s = .next t → t.WaitsOnBurst

/-- The properties that every step keeps hold after a reset. -/
def Obligations.ResetStateHasTheInvariants : Prop :=
  State.reset.Bounded ∧ State.reset.Quiet ∧ State.reset.Tracked ∧ State.reset.InputsExact ∧ State.reset.ReporterExact
    ∧ State.reset.Saturated ∧ State.reset.WaitsOnBurst
end

