-- ==== Sys2Proof/Laws/State.lean ====
section
/-! SUPPORT. Each field of the state after each replacement of a field. -/

namespace Sys2Proof.Machine.State

@[simp] theorem link_withLink (s : State) (x) : (s.withLink x).link = x := rfl
@[simp] theorem forward_withLink (s : State) (x) : (s.withLink x).forward = s.forward := rfl
@[simp] theorem tracker_withLink (s : State) (x) : (s.withLink x).tracker = s.tracker := rfl
@[simp] theorem now_withLink (s : State) (x) : (s.withLink x).now = s.now := rfl
@[simp] theorem intake_withLink (s : State) (x) : (s.withLink x).intake = s.intake := rfl
@[simp] theorem burst_withLink (s : State) (x) : (s.withLink x).burst = s.burst := rfl
@[simp] theorem triggers_withLink (s : State) (x) : (s.withLink x).triggers = s.triggers := rfl
@[simp] theorem channels_withLink (s : State) (x) : (s.withLink x).channels = s.channels := rfl
@[simp] theorem watches_withLink (s : State) (x) : (s.withLink x).watches = s.watches := rfl
@[simp] theorem trains_withLink (s : State) (x) : (s.withLink x).trains = s.trains := rfl
@[simp] theorem timers_withLink (s : State) (x) : (s.withLink x).timers = s.timers := rfl
@[simp] theorem outputs_withLink (s : State) (x) : (s.withLink x).outputs = s.outputs := rfl
@[simp] theorem inputs_withLink (s : State) (x) : (s.withLink x).inputs = s.inputs := rfl
@[simp] theorem patches_withLink (s : State) (x) : (s.withLink x).patches = s.patches := rfl
@[simp] theorem report_withLink (s : State) (x) : (s.withLink x).report = s.report := rfl
@[simp] theorem banks_withLink (s : State) (x) : (s.withLink x).banks = s.banks := rfl
@[simp] theorem agent_withLink (s : State) (x) : (s.withLink x).agent = s.agent := rfl
@[simp] theorem engine_withLink (s : State) (x) : (s.withLink x).engine = s.engine := rfl
@[simp] theorem faults_withLink (s : State) (x) : (s.withLink x).faults = s.faults := rfl
@[simp] theorem counters_withLink (s : State) (x) : (s.withLink x).counters = s.counters := rfl
@[simp] theorem pending_withLink (s : State) (x) : (s.withLink x).pending = s.pending := rfl
@[simp] theorem freeIdx_withLink (s : State) (x) : (s.withLink x).freeIdx = s.freeIdx := rfl

@[simp] theorem link_withForward (s : State) (x) : (s.withForward x).link = s.link := rfl
@[simp] theorem forward_withForward (s : State) (x) : (s.withForward x).forward = x := rfl
@[simp] theorem tracker_withForward (s : State) (x) : (s.withForward x).tracker = s.tracker := rfl
@[simp] theorem now_withForward (s : State) (x) : (s.withForward x).now = s.now := rfl
@[simp] theorem intake_withForward (s : State) (x) : (s.withForward x).intake = s.intake := rfl
@[simp] theorem burst_withForward (s : State) (x) : (s.withForward x).burst = s.burst := rfl
@[simp] theorem triggers_withForward (s : State) (x) : (s.withForward x).triggers = s.triggers := rfl
@[simp] theorem channels_withForward (s : State) (x) : (s.withForward x).channels = s.channels := rfl
@[simp] theorem watches_withForward (s : State) (x) : (s.withForward x).watches = s.watches := rfl
@[simp] theorem trains_withForward (s : State) (x) : (s.withForward x).trains = s.trains := rfl
@[simp] theorem timers_withForward (s : State) (x) : (s.withForward x).timers = s.timers := rfl
@[simp] theorem outputs_withForward (s : State) (x) : (s.withForward x).outputs = s.outputs := rfl
@[simp] theorem inputs_withForward (s : State) (x) : (s.withForward x).inputs = s.inputs := rfl
@[simp] theorem patches_withForward (s : State) (x) : (s.withForward x).patches = s.patches := rfl
@[simp] theorem report_withForward (s : State) (x) : (s.withForward x).report = s.report := rfl
@[simp] theorem banks_withForward (s : State) (x) : (s.withForward x).banks = s.banks := rfl
@[simp] theorem agent_withForward (s : State) (x) : (s.withForward x).agent = s.agent := rfl
@[simp] theorem engine_withForward (s : State) (x) : (s.withForward x).engine = s.engine := rfl
@[simp] theorem faults_withForward (s : State) (x) : (s.withForward x).faults = s.faults := rfl
@[simp] theorem counters_withForward (s : State) (x) : (s.withForward x).counters = s.counters := rfl
@[simp] theorem pending_withForward (s : State) (x) : (s.withForward x).pending = s.pending := rfl
@[simp] theorem freeIdx_withForward (s : State) (x) : (s.withForward x).freeIdx = s.freeIdx := rfl

@[simp] theorem link_withTracker (s : State) (x) : (s.withTracker x).link = s.link := rfl
@[simp] theorem forward_withTracker (s : State) (x) : (s.withTracker x).forward = s.forward := rfl
@[simp] theorem tracker_withTracker (s : State) (x) : (s.withTracker x).tracker = x := rfl
@[simp] theorem now_withTracker (s : State) (x) : (s.withTracker x).now = s.now := rfl
@[simp] theorem intake_withTracker (s : State) (x) : (s.withTracker x).intake = s.intake := rfl
@[simp] theorem burst_withTracker (s : State) (x) : (s.withTracker x).burst = s.burst := rfl
@[simp] theorem triggers_withTracker (s : State) (x) : (s.withTracker x).triggers = s.triggers := rfl
@[simp] theorem channels_withTracker (s : State) (x) : (s.withTracker x).channels = s.channels := rfl
@[simp] theorem watches_withTracker (s : State) (x) : (s.withTracker x).watches = s.watches := rfl
@[simp] theorem trains_withTracker (s : State) (x) : (s.withTracker x).trains = s.trains := rfl
@[simp] theorem timers_withTracker (s : State) (x) : (s.withTracker x).timers = s.timers := rfl
@[simp] theorem outputs_withTracker (s : State) (x) : (s.withTracker x).outputs = s.outputs := rfl
@[simp] theorem inputs_withTracker (s : State) (x) : (s.withTracker x).inputs = s.inputs := rfl
@[simp] theorem patches_withTracker (s : State) (x) : (s.withTracker x).patches = s.patches := rfl
@[simp] theorem report_withTracker (s : State) (x) : (s.withTracker x).report = s.report := rfl
@[simp] theorem banks_withTracker (s : State) (x) : (s.withTracker x).banks = s.banks := rfl
@[simp] theorem agent_withTracker (s : State) (x) : (s.withTracker x).agent = s.agent := rfl
@[simp] theorem engine_withTracker (s : State) (x) : (s.withTracker x).engine = s.engine := rfl
@[simp] theorem faults_withTracker (s : State) (x) : (s.withTracker x).faults = s.faults := rfl
@[simp] theorem counters_withTracker (s : State) (x) : (s.withTracker x).counters = s.counters := rfl
@[simp] theorem pending_withTracker (s : State) (x) : (s.withTracker x).pending = s.pending := rfl
@[simp] theorem freeIdx_withTracker (s : State) (x) : (s.withTracker x).freeIdx = s.freeIdx := rfl

@[simp] theorem link_withNow (s : State) (x) : (s.withNow x).link = s.link := rfl
@[simp] theorem forward_withNow (s : State) (x) : (s.withNow x).forward = s.forward := rfl
@[simp] theorem tracker_withNow (s : State) (x) : (s.withNow x).tracker = s.tracker := rfl
@[simp] theorem now_withNow (s : State) (x) : (s.withNow x).now = x := rfl
@[simp] theorem intake_withNow (s : State) (x) : (s.withNow x).intake = s.intake := rfl
@[simp] theorem burst_withNow (s : State) (x) : (s.withNow x).burst = s.burst := rfl
@[simp] theorem triggers_withNow (s : State) (x) : (s.withNow x).triggers = s.triggers := rfl
@[simp] theorem channels_withNow (s : State) (x) : (s.withNow x).channels = s.channels := rfl
@[simp] theorem watches_withNow (s : State) (x) : (s.withNow x).watches = s.watches := rfl
@[simp] theorem trains_withNow (s : State) (x) : (s.withNow x).trains = s.trains := rfl
@[simp] theorem timers_withNow (s : State) (x) : (s.withNow x).timers = s.timers := rfl
@[simp] theorem outputs_withNow (s : State) (x) : (s.withNow x).outputs = s.outputs := rfl
@[simp] theorem inputs_withNow (s : State) (x) : (s.withNow x).inputs = s.inputs := rfl
@[simp] theorem patches_withNow (s : State) (x) : (s.withNow x).patches = s.patches := rfl
@[simp] theorem report_withNow (s : State) (x) : (s.withNow x).report = s.report := rfl
@[simp] theorem banks_withNow (s : State) (x) : (s.withNow x).banks = s.banks := rfl
@[simp] theorem agent_withNow (s : State) (x) : (s.withNow x).agent = s.agent := rfl
@[simp] theorem engine_withNow (s : State) (x) : (s.withNow x).engine = s.engine := rfl
@[simp] theorem faults_withNow (s : State) (x) : (s.withNow x).faults = s.faults := rfl
@[simp] theorem counters_withNow (s : State) (x) : (s.withNow x).counters = s.counters := rfl
@[simp] theorem pending_withNow (s : State) (x) : (s.withNow x).pending = s.pending := rfl
@[simp] theorem freeIdx_withNow (s : State) (x) : (s.withNow x).freeIdx = s.freeIdx := rfl

@[simp] theorem link_withIntake (s : State) (x) : (s.withIntake x).link = s.link := rfl
@[simp] theorem forward_withIntake (s : State) (x) : (s.withIntake x).forward = s.forward := rfl
@[simp] theorem tracker_withIntake (s : State) (x) : (s.withIntake x).tracker = s.tracker := rfl
@[simp] theorem now_withIntake (s : State) (x) : (s.withIntake x).now = s.now := rfl
@[simp] theorem intake_withIntake (s : State) (x) : (s.withIntake x).intake = x := rfl
@[simp] theorem burst_withIntake (s : State) (x) : (s.withIntake x).burst = s.burst := rfl
@[simp] theorem triggers_withIntake (s : State) (x) : (s.withIntake x).triggers = s.triggers := rfl
@[simp] theorem channels_withIntake (s : State) (x) : (s.withIntake x).channels = s.channels := rfl
@[simp] theorem watches_withIntake (s : State) (x) : (s.withIntake x).watches = s.watches := rfl
@[simp] theorem trains_withIntake (s : State) (x) : (s.withIntake x).trains = s.trains := rfl
@[simp] theorem timers_withIntake (s : State) (x) : (s.withIntake x).timers = s.timers := rfl
@[simp] theorem outputs_withIntake (s : State) (x) : (s.withIntake x).outputs = s.outputs := rfl
@[simp] theorem inputs_withIntake (s : State) (x) : (s.withIntake x).inputs = s.inputs := rfl
@[simp] theorem patches_withIntake (s : State) (x) : (s.withIntake x).patches = s.patches := rfl
@[simp] theorem report_withIntake (s : State) (x) : (s.withIntake x).report = s.report := rfl
@[simp] theorem banks_withIntake (s : State) (x) : (s.withIntake x).banks = s.banks := rfl
@[simp] theorem agent_withIntake (s : State) (x) : (s.withIntake x).agent = s.agent := rfl
@[simp] theorem engine_withIntake (s : State) (x) : (s.withIntake x).engine = s.engine := rfl
@[simp] theorem faults_withIntake (s : State) (x) : (s.withIntake x).faults = s.faults := rfl
@[simp] theorem counters_withIntake (s : State) (x) : (s.withIntake x).counters = s.counters := rfl
@[simp] theorem pending_withIntake (s : State) (x) : (s.withIntake x).pending = s.pending := rfl
@[simp] theorem freeIdx_withIntake (s : State) (x) : (s.withIntake x).freeIdx = s.freeIdx := rfl

@[simp] theorem link_withBurst (s : State) (x) : (s.withBurst x).link = s.link := rfl
@[simp] theorem forward_withBurst (s : State) (x) : (s.withBurst x).forward = s.forward := rfl
@[simp] theorem tracker_withBurst (s : State) (x) : (s.withBurst x).tracker = s.tracker := rfl
@[simp] theorem now_withBurst (s : State) (x) : (s.withBurst x).now = s.now := rfl
@[simp] theorem intake_withBurst (s : State) (x) : (s.withBurst x).intake = s.intake := rfl
@[simp] theorem burst_withBurst (s : State) (x) : (s.withBurst x).burst = x := rfl
@[simp] theorem triggers_withBurst (s : State) (x) : (s.withBurst x).triggers = s.triggers := rfl
@[simp] theorem channels_withBurst (s : State) (x) : (s.withBurst x).channels = s.channels := rfl
@[simp] theorem watches_withBurst (s : State) (x) : (s.withBurst x).watches = s.watches := rfl
@[simp] theorem trains_withBurst (s : State) (x) : (s.withBurst x).trains = s.trains := rfl
@[simp] theorem timers_withBurst (s : State) (x) : (s.withBurst x).timers = s.timers := rfl
@[simp] theorem outputs_withBurst (s : State) (x) : (s.withBurst x).outputs = s.outputs := rfl
@[simp] theorem inputs_withBurst (s : State) (x) : (s.withBurst x).inputs = s.inputs := rfl
@[simp] theorem patches_withBurst (s : State) (x) : (s.withBurst x).patches = s.patches := rfl
@[simp] theorem report_withBurst (s : State) (x) : (s.withBurst x).report = s.report := rfl
@[simp] theorem banks_withBurst (s : State) (x) : (s.withBurst x).banks = s.banks := rfl
@[simp] theorem agent_withBurst (s : State) (x) : (s.withBurst x).agent = s.agent := rfl
@[simp] theorem engine_withBurst (s : State) (x) : (s.withBurst x).engine = s.engine := rfl
@[simp] theorem faults_withBurst (s : State) (x) : (s.withBurst x).faults = s.faults := rfl
@[simp] theorem counters_withBurst (s : State) (x) : (s.withBurst x).counters = s.counters := rfl
@[simp] theorem pending_withBurst (s : State) (x) : (s.withBurst x).pending = s.pending := rfl
@[simp] theorem freeIdx_withBurst (s : State) (x) : (s.withBurst x).freeIdx = s.freeIdx := rfl

@[simp] theorem link_withTriggers (s : State) (x) : (s.withTriggers x).link = s.link := rfl
@[simp] theorem forward_withTriggers (s : State) (x) : (s.withTriggers x).forward = s.forward := rfl
@[simp] theorem tracker_withTriggers (s : State) (x) : (s.withTriggers x).tracker = s.tracker := rfl
@[simp] theorem now_withTriggers (s : State) (x) : (s.withTriggers x).now = s.now := rfl
@[simp] theorem intake_withTriggers (s : State) (x) : (s.withTriggers x).intake = s.intake := rfl
@[simp] theorem burst_withTriggers (s : State) (x) : (s.withTriggers x).burst = s.burst := rfl
@[simp] theorem triggers_withTriggers (s : State) (x) : (s.withTriggers x).triggers = x := rfl
@[simp] theorem channels_withTriggers (s : State) (x) : (s.withTriggers x).channels = s.channels := rfl
@[simp] theorem watches_withTriggers (s : State) (x) : (s.withTriggers x).watches = s.watches := rfl
@[simp] theorem trains_withTriggers (s : State) (x) : (s.withTriggers x).trains = s.trains := rfl
@[simp] theorem timers_withTriggers (s : State) (x) : (s.withTriggers x).timers = s.timers := rfl
@[simp] theorem outputs_withTriggers (s : State) (x) : (s.withTriggers x).outputs = s.outputs := rfl
@[simp] theorem inputs_withTriggers (s : State) (x) : (s.withTriggers x).inputs = s.inputs := rfl
@[simp] theorem patches_withTriggers (s : State) (x) : (s.withTriggers x).patches = s.patches := rfl
@[simp] theorem report_withTriggers (s : State) (x) : (s.withTriggers x).report = s.report := rfl
@[simp] theorem banks_withTriggers (s : State) (x) : (s.withTriggers x).banks = s.banks := rfl
@[simp] theorem agent_withTriggers (s : State) (x) : (s.withTriggers x).agent = s.agent := rfl
@[simp] theorem engine_withTriggers (s : State) (x) : (s.withTriggers x).engine = s.engine := rfl
@[simp] theorem faults_withTriggers (s : State) (x) : (s.withTriggers x).faults = s.faults := rfl
@[simp] theorem counters_withTriggers (s : State) (x) : (s.withTriggers x).counters = s.counters := rfl
@[simp] theorem pending_withTriggers (s : State) (x) : (s.withTriggers x).pending = s.pending := rfl
@[simp] theorem freeIdx_withTriggers (s : State) (x) : (s.withTriggers x).freeIdx = s.freeIdx := rfl

@[simp] theorem link_withChannels (s : State) (x) : (s.withChannels x).link = s.link := rfl
@[simp] theorem forward_withChannels (s : State) (x) : (s.withChannels x).forward = s.forward := rfl
@[simp] theorem tracker_withChannels (s : State) (x) : (s.withChannels x).tracker = s.tracker := rfl
@[simp] theorem now_withChannels (s : State) (x) : (s.withChannels x).now = s.now := rfl
@[simp] theorem intake_withChannels (s : State) (x) : (s.withChannels x).intake = s.intake := rfl
@[simp] theorem burst_withChannels (s : State) (x) : (s.withChannels x).burst = s.burst := rfl
@[simp] theorem triggers_withChannels (s : State) (x) : (s.withChannels x).triggers = s.triggers := rfl
@[simp] theorem channels_withChannels (s : State) (x) : (s.withChannels x).channels = x := rfl
@[simp] theorem watches_withChannels (s : State) (x) : (s.withChannels x).watches = s.watches := rfl
@[simp] theorem trains_withChannels (s : State) (x) : (s.withChannels x).trains = s.trains := rfl
@[simp] theorem timers_withChannels (s : State) (x) : (s.withChannels x).timers = s.timers := rfl
@[simp] theorem outputs_withChannels (s : State) (x) : (s.withChannels x).outputs = s.outputs := rfl
@[simp] theorem inputs_withChannels (s : State) (x) : (s.withChannels x).inputs = s.inputs := rfl
@[simp] theorem patches_withChannels (s : State) (x) : (s.withChannels x).patches = s.patches := rfl
@[simp] theorem report_withChannels (s : State) (x) : (s.withChannels x).report = s.report := rfl
@[simp] theorem banks_withChannels (s : State) (x) : (s.withChannels x).banks = s.banks := rfl
@[simp] theorem agent_withChannels (s : State) (x) : (s.withChannels x).agent = s.agent := rfl
@[simp] theorem engine_withChannels (s : State) (x) : (s.withChannels x).engine = s.engine := rfl
@[simp] theorem faults_withChannels (s : State) (x) : (s.withChannels x).faults = s.faults := rfl
@[simp] theorem counters_withChannels (s : State) (x) : (s.withChannels x).counters = s.counters := rfl
@[simp] theorem pending_withChannels (s : State) (x) : (s.withChannels x).pending = s.pending := rfl
@[simp] theorem freeIdx_withChannels (s : State) (x) : (s.withChannels x).freeIdx = s.freeIdx := rfl

@[simp] theorem link_withWatches (s : State) (x) : (s.withWatches x).link = s.link := rfl
@[simp] theorem forward_withWatches (s : State) (x) : (s.withWatches x).forward = s.forward := rfl
@[simp] theorem tracker_withWatches (s : State) (x) : (s.withWatches x).tracker = s.tracker := rfl
@[simp] theorem now_withWatches (s : State) (x) : (s.withWatches x).now = s.now := rfl
@[simp] theorem intake_withWatches (s : State) (x) : (s.withWatches x).intake = s.intake := rfl
@[simp] theorem burst_withWatches (s : State) (x) : (s.withWatches x).burst = s.burst := rfl
@[simp] theorem triggers_withWatches (s : State) (x) : (s.withWatches x).triggers = s.triggers := rfl
@[simp] theorem channels_withWatches (s : State) (x) : (s.withWatches x).channels = s.channels := rfl
@[simp] theorem watches_withWatches (s : State) (x) : (s.withWatches x).watches = x := rfl
@[simp] theorem trains_withWatches (s : State) (x) : (s.withWatches x).trains = s.trains := rfl
@[simp] theorem timers_withWatches (s : State) (x) : (s.withWatches x).timers = s.timers := rfl
@[simp] theorem outputs_withWatches (s : State) (x) : (s.withWatches x).outputs = s.outputs := rfl
@[simp] theorem inputs_withWatches (s : State) (x) : (s.withWatches x).inputs = s.inputs := rfl
@[simp] theorem patches_withWatches (s : State) (x) : (s.withWatches x).patches = s.patches := rfl
@[simp] theorem report_withWatches (s : State) (x) : (s.withWatches x).report = s.report := rfl
@[simp] theorem banks_withWatches (s : State) (x) : (s.withWatches x).banks = s.banks := rfl
@[simp] theorem agent_withWatches (s : State) (x) : (s.withWatches x).agent = s.agent := rfl
@[simp] theorem engine_withWatches (s : State) (x) : (s.withWatches x).engine = s.engine := rfl
@[simp] theorem faults_withWatches (s : State) (x) : (s.withWatches x).faults = s.faults := rfl
@[simp] theorem counters_withWatches (s : State) (x) : (s.withWatches x).counters = s.counters := rfl
@[simp] theorem pending_withWatches (s : State) (x) : (s.withWatches x).pending = s.pending := rfl
@[simp] theorem freeIdx_withWatches (s : State) (x) : (s.withWatches x).freeIdx = s.freeIdx := rfl

@[simp] theorem link_withTrains (s : State) (x) : (s.withTrains x).link = s.link := rfl
@[simp] theorem forward_withTrains (s : State) (x) : (s.withTrains x).forward = s.forward := rfl
@[simp] theorem tracker_withTrains (s : State) (x) : (s.withTrains x).tracker = s.tracker := rfl
@[simp] theorem now_withTrains (s : State) (x) : (s.withTrains x).now = s.now := rfl
@[simp] theorem intake_withTrains (s : State) (x) : (s.withTrains x).intake = s.intake := rfl
@[simp] theorem burst_withTrains (s : State) (x) : (s.withTrains x).burst = s.burst := rfl
@[simp] theorem triggers_withTrains (s : State) (x) : (s.withTrains x).triggers = s.triggers := rfl
@[simp] theorem channels_withTrains (s : State) (x) : (s.withTrains x).channels = s.channels := rfl
@[simp] theorem watches_withTrains (s : State) (x) : (s.withTrains x).watches = s.watches := rfl
@[simp] theorem trains_withTrains (s : State) (x) : (s.withTrains x).trains = x := rfl
@[simp] theorem timers_withTrains (s : State) (x) : (s.withTrains x).timers = s.timers := rfl
@[simp] theorem outputs_withTrains (s : State) (x) : (s.withTrains x).outputs = s.outputs := rfl
@[simp] theorem inputs_withTrains (s : State) (x) : (s.withTrains x).inputs = s.inputs := rfl
@[simp] theorem patches_withTrains (s : State) (x) : (s.withTrains x).patches = s.patches := rfl
@[simp] theorem report_withTrains (s : State) (x) : (s.withTrains x).report = s.report := rfl
@[simp] theorem banks_withTrains (s : State) (x) : (s.withTrains x).banks = s.banks := rfl
@[simp] theorem agent_withTrains (s : State) (x) : (s.withTrains x).agent = s.agent := rfl
@[simp] theorem engine_withTrains (s : State) (x) : (s.withTrains x).engine = s.engine := rfl
@[simp] theorem faults_withTrains (s : State) (x) : (s.withTrains x).faults = s.faults := rfl
@[simp] theorem counters_withTrains (s : State) (x) : (s.withTrains x).counters = s.counters := rfl
@[simp] theorem pending_withTrains (s : State) (x) : (s.withTrains x).pending = s.pending := rfl
@[simp] theorem freeIdx_withTrains (s : State) (x) : (s.withTrains x).freeIdx = s.freeIdx := rfl

@[simp] theorem link_withTimers (s : State) (x) : (s.withTimers x).link = s.link := rfl
@[simp] theorem forward_withTimers (s : State) (x) : (s.withTimers x).forward = s.forward := rfl
@[simp] theorem tracker_withTimers (s : State) (x) : (s.withTimers x).tracker = s.tracker := rfl
@[simp] theorem now_withTimers (s : State) (x) : (s.withTimers x).now = s.now := rfl
@[simp] theorem intake_withTimers (s : State) (x) : (s.withTimers x).intake = s.intake := rfl
@[simp] theorem burst_withTimers (s : State) (x) : (s.withTimers x).burst = s.burst := rfl
@[simp] theorem triggers_withTimers (s : State) (x) : (s.withTimers x).triggers = s.triggers := rfl
@[simp] theorem channels_withTimers (s : State) (x) : (s.withTimers x).channels = s.channels := rfl
@[simp] theorem watches_withTimers (s : State) (x) : (s.withTimers x).watches = s.watches := rfl
@[simp] theorem trains_withTimers (s : State) (x) : (s.withTimers x).trains = s.trains := rfl
@[simp] theorem timers_withTimers (s : State) (x) : (s.withTimers x).timers = x := rfl
@[simp] theorem outputs_withTimers (s : State) (x) : (s.withTimers x).outputs = s.outputs := rfl
@[simp] theorem inputs_withTimers (s : State) (x) : (s.withTimers x).inputs = s.inputs := rfl
@[simp] theorem patches_withTimers (s : State) (x) : (s.withTimers x).patches = s.patches := rfl
@[simp] theorem report_withTimers (s : State) (x) : (s.withTimers x).report = s.report := rfl
@[simp] theorem banks_withTimers (s : State) (x) : (s.withTimers x).banks = s.banks := rfl
@[simp] theorem agent_withTimers (s : State) (x) : (s.withTimers x).agent = s.agent := rfl
@[simp] theorem engine_withTimers (s : State) (x) : (s.withTimers x).engine = s.engine := rfl
@[simp] theorem faults_withTimers (s : State) (x) : (s.withTimers x).faults = s.faults := rfl
@[simp] theorem counters_withTimers (s : State) (x) : (s.withTimers x).counters = s.counters := rfl
@[simp] theorem pending_withTimers (s : State) (x) : (s.withTimers x).pending = s.pending := rfl
@[simp] theorem freeIdx_withTimers (s : State) (x) : (s.withTimers x).freeIdx = s.freeIdx := rfl

@[simp] theorem link_withOutputs (s : State) (x) : (s.withOutputs x).link = s.link := rfl
@[simp] theorem forward_withOutputs (s : State) (x) : (s.withOutputs x).forward = s.forward := rfl
@[simp] theorem tracker_withOutputs (s : State) (x) : (s.withOutputs x).tracker = s.tracker := rfl
@[simp] theorem now_withOutputs (s : State) (x) : (s.withOutputs x).now = s.now := rfl
@[simp] theorem intake_withOutputs (s : State) (x) : (s.withOutputs x).intake = s.intake := rfl
@[simp] theorem burst_withOutputs (s : State) (x) : (s.withOutputs x).burst = s.burst := rfl
@[simp] theorem triggers_withOutputs (s : State) (x) : (s.withOutputs x).triggers = s.triggers := rfl
@[simp] theorem channels_withOutputs (s : State) (x) : (s.withOutputs x).channels = s.channels := rfl
@[simp] theorem watches_withOutputs (s : State) (x) : (s.withOutputs x).watches = s.watches := rfl
@[simp] theorem trains_withOutputs (s : State) (x) : (s.withOutputs x).trains = s.trains := rfl
@[simp] theorem timers_withOutputs (s : State) (x) : (s.withOutputs x).timers = s.timers := rfl
@[simp] theorem outputs_withOutputs (s : State) (x) : (s.withOutputs x).outputs = x := rfl
@[simp] theorem inputs_withOutputs (s : State) (x) : (s.withOutputs x).inputs = s.inputs := rfl
@[simp] theorem patches_withOutputs (s : State) (x) : (s.withOutputs x).patches = s.patches := rfl
@[simp] theorem report_withOutputs (s : State) (x) : (s.withOutputs x).report = s.report := rfl
@[simp] theorem banks_withOutputs (s : State) (x) : (s.withOutputs x).banks = s.banks := rfl
@[simp] theorem agent_withOutputs (s : State) (x) : (s.withOutputs x).agent = s.agent := rfl
@[simp] theorem engine_withOutputs (s : State) (x) : (s.withOutputs x).engine = s.engine := rfl
@[simp] theorem faults_withOutputs (s : State) (x) : (s.withOutputs x).faults = s.faults := rfl
@[simp] theorem counters_withOutputs (s : State) (x) : (s.withOutputs x).counters = s.counters := rfl
@[simp] theorem pending_withOutputs (s : State) (x) : (s.withOutputs x).pending = s.pending := rfl
@[simp] theorem freeIdx_withOutputs (s : State) (x) : (s.withOutputs x).freeIdx = s.freeIdx := rfl

@[simp] theorem link_withInputs (s : State) (x) : (s.withInputs x).link = s.link := rfl
@[simp] theorem forward_withInputs (s : State) (x) : (s.withInputs x).forward = s.forward := rfl
@[simp] theorem tracker_withInputs (s : State) (x) : (s.withInputs x).tracker = s.tracker := rfl
@[simp] theorem now_withInputs (s : State) (x) : (s.withInputs x).now = s.now := rfl
@[simp] theorem intake_withInputs (s : State) (x) : (s.withInputs x).intake = s.intake := rfl
@[simp] theorem burst_withInputs (s : State) (x) : (s.withInputs x).burst = s.burst := rfl
@[simp] theorem triggers_withInputs (s : State) (x) : (s.withInputs x).triggers = s.triggers := rfl
@[simp] theorem channels_withInputs (s : State) (x) : (s.withInputs x).channels = s.channels := rfl
@[simp] theorem watches_withInputs (s : State) (x) : (s.withInputs x).watches = s.watches := rfl
@[simp] theorem trains_withInputs (s : State) (x) : (s.withInputs x).trains = s.trains := rfl
@[simp] theorem timers_withInputs (s : State) (x) : (s.withInputs x).timers = s.timers := rfl
@[simp] theorem outputs_withInputs (s : State) (x) : (s.withInputs x).outputs = s.outputs := rfl
@[simp] theorem inputs_withInputs (s : State) (x) : (s.withInputs x).inputs = x := rfl
@[simp] theorem patches_withInputs (s : State) (x) : (s.withInputs x).patches = s.patches := rfl
@[simp] theorem report_withInputs (s : State) (x) : (s.withInputs x).report = s.report := rfl
@[simp] theorem banks_withInputs (s : State) (x) : (s.withInputs x).banks = s.banks := rfl
@[simp] theorem agent_withInputs (s : State) (x) : (s.withInputs x).agent = s.agent := rfl
@[simp] theorem engine_withInputs (s : State) (x) : (s.withInputs x).engine = s.engine := rfl
@[simp] theorem faults_withInputs (s : State) (x) : (s.withInputs x).faults = s.faults := rfl
@[simp] theorem counters_withInputs (s : State) (x) : (s.withInputs x).counters = s.counters := rfl
@[simp] theorem pending_withInputs (s : State) (x) : (s.withInputs x).pending = s.pending := rfl
@[simp] theorem freeIdx_withInputs (s : State) (x) : (s.withInputs x).freeIdx = s.freeIdx := rfl

@[simp] theorem link_withPatches (s : State) (x) : (s.withPatches x).link = s.link := rfl
@[simp] theorem forward_withPatches (s : State) (x) : (s.withPatches x).forward = s.forward := rfl
@[simp] theorem tracker_withPatches (s : State) (x) : (s.withPatches x).tracker = s.tracker := rfl
@[simp] theorem now_withPatches (s : State) (x) : (s.withPatches x).now = s.now := rfl
@[simp] theorem intake_withPatches (s : State) (x) : (s.withPatches x).intake = s.intake := rfl
@[simp] theorem burst_withPatches (s : State) (x) : (s.withPatches x).burst = s.burst := rfl
@[simp] theorem triggers_withPatches (s : State) (x) : (s.withPatches x).triggers = s.triggers := rfl
@[simp] theorem channels_withPatches (s : State) (x) : (s.withPatches x).channels = s.channels := rfl
@[simp] theorem watches_withPatches (s : State) (x) : (s.withPatches x).watches = s.watches := rfl
@[simp] theorem trains_withPatches (s : State) (x) : (s.withPatches x).trains = s.trains := rfl
@[simp] theorem timers_withPatches (s : State) (x) : (s.withPatches x).timers = s.timers := rfl
@[simp] theorem outputs_withPatches (s : State) (x) : (s.withPatches x).outputs = s.outputs := rfl
@[simp] theorem inputs_withPatches (s : State) (x) : (s.withPatches x).inputs = s.inputs := rfl
@[simp] theorem patches_withPatches (s : State) (x) : (s.withPatches x).patches = x := rfl
@[simp] theorem report_withPatches (s : State) (x) : (s.withPatches x).report = s.report := rfl
@[simp] theorem banks_withPatches (s : State) (x) : (s.withPatches x).banks = s.banks := rfl
@[simp] theorem agent_withPatches (s : State) (x) : (s.withPatches x).agent = s.agent := rfl
@[simp] theorem engine_withPatches (s : State) (x) : (s.withPatches x).engine = s.engine := rfl
@[simp] theorem faults_withPatches (s : State) (x) : (s.withPatches x).faults = s.faults := rfl
@[simp] theorem counters_withPatches (s : State) (x) : (s.withPatches x).counters = s.counters := rfl
@[simp] theorem pending_withPatches (s : State) (x) : (s.withPatches x).pending = s.pending := rfl
@[simp] theorem freeIdx_withPatches (s : State) (x) : (s.withPatches x).freeIdx = s.freeIdx := rfl

@[simp] theorem link_withReport (s : State) (x) : (s.withReport x).link = s.link := rfl
@[simp] theorem forward_withReport (s : State) (x) : (s.withReport x).forward = s.forward := rfl
@[simp] theorem tracker_withReport (s : State) (x) : (s.withReport x).tracker = s.tracker := rfl
@[simp] theorem now_withReport (s : State) (x) : (s.withReport x).now = s.now := rfl
@[simp] theorem intake_withReport (s : State) (x) : (s.withReport x).intake = s.intake := rfl
@[simp] theorem burst_withReport (s : State) (x) : (s.withReport x).burst = s.burst := rfl
@[simp] theorem triggers_withReport (s : State) (x) : (s.withReport x).triggers = s.triggers := rfl
@[simp] theorem channels_withReport (s : State) (x) : (s.withReport x).channels = s.channels := rfl
@[simp] theorem watches_withReport (s : State) (x) : (s.withReport x).watches = s.watches := rfl
@[simp] theorem trains_withReport (s : State) (x) : (s.withReport x).trains = s.trains := rfl
@[simp] theorem timers_withReport (s : State) (x) : (s.withReport x).timers = s.timers := rfl
@[simp] theorem outputs_withReport (s : State) (x) : (s.withReport x).outputs = s.outputs := rfl
@[simp] theorem inputs_withReport (s : State) (x) : (s.withReport x).inputs = s.inputs := rfl
@[simp] theorem patches_withReport (s : State) (x) : (s.withReport x).patches = s.patches := rfl
@[simp] theorem report_withReport (s : State) (x) : (s.withReport x).report = x := rfl
@[simp] theorem banks_withReport (s : State) (x) : (s.withReport x).banks = s.banks := rfl
@[simp] theorem agent_withReport (s : State) (x) : (s.withReport x).agent = s.agent := rfl
@[simp] theorem engine_withReport (s : State) (x) : (s.withReport x).engine = s.engine := rfl
@[simp] theorem faults_withReport (s : State) (x) : (s.withReport x).faults = s.faults := rfl
@[simp] theorem counters_withReport (s : State) (x) : (s.withReport x).counters = s.counters := rfl
@[simp] theorem pending_withReport (s : State) (x) : (s.withReport x).pending = s.pending := rfl
@[simp] theorem freeIdx_withReport (s : State) (x) : (s.withReport x).freeIdx = s.freeIdx := rfl

@[simp] theorem link_withBanks (s : State) (x) : (s.withBanks x).link = s.link := rfl
@[simp] theorem forward_withBanks (s : State) (x) : (s.withBanks x).forward = s.forward := rfl
@[simp] theorem tracker_withBanks (s : State) (x) : (s.withBanks x).tracker = s.tracker := rfl
@[simp] theorem now_withBanks (s : State) (x) : (s.withBanks x).now = s.now := rfl
@[simp] theorem intake_withBanks (s : State) (x) : (s.withBanks x).intake = s.intake := rfl
@[simp] theorem burst_withBanks (s : State) (x) : (s.withBanks x).burst = s.burst := rfl
@[simp] theorem triggers_withBanks (s : State) (x) : (s.withBanks x).triggers = s.triggers := rfl
@[simp] theorem channels_withBanks (s : State) (x) : (s.withBanks x).channels = s.channels := rfl
@[simp] theorem watches_withBanks (s : State) (x) : (s.withBanks x).watches = s.watches := rfl
@[simp] theorem trains_withBanks (s : State) (x) : (s.withBanks x).trains = s.trains := rfl
@[simp] theorem timers_withBanks (s : State) (x) : (s.withBanks x).timers = s.timers := rfl
@[simp] theorem outputs_withBanks (s : State) (x) : (s.withBanks x).outputs = s.outputs := rfl
@[simp] theorem inputs_withBanks (s : State) (x) : (s.withBanks x).inputs = s.inputs := rfl
@[simp] theorem patches_withBanks (s : State) (x) : (s.withBanks x).patches = s.patches := rfl
@[simp] theorem report_withBanks (s : State) (x) : (s.withBanks x).report = s.report := rfl
@[simp] theorem banks_withBanks (s : State) (x) : (s.withBanks x).banks = x := rfl
@[simp] theorem agent_withBanks (s : State) (x) : (s.withBanks x).agent = s.agent := rfl
@[simp] theorem engine_withBanks (s : State) (x) : (s.withBanks x).engine = s.engine := rfl
@[simp] theorem faults_withBanks (s : State) (x) : (s.withBanks x).faults = s.faults := rfl
@[simp] theorem counters_withBanks (s : State) (x) : (s.withBanks x).counters = s.counters := rfl
@[simp] theorem pending_withBanks (s : State) (x) : (s.withBanks x).pending = s.pending := rfl
@[simp] theorem freeIdx_withBanks (s : State) (x) : (s.withBanks x).freeIdx = s.freeIdx := rfl

@[simp] theorem link_withAgent (s : State) (x) : (s.withAgent x).link = s.link := rfl
@[simp] theorem forward_withAgent (s : State) (x) : (s.withAgent x).forward = s.forward := rfl
@[simp] theorem tracker_withAgent (s : State) (x) : (s.withAgent x).tracker = s.tracker := rfl
@[simp] theorem now_withAgent (s : State) (x) : (s.withAgent x).now = s.now := rfl
@[simp] theorem intake_withAgent (s : State) (x) : (s.withAgent x).intake = s.intake := rfl
@[simp] theorem burst_withAgent (s : State) (x) : (s.withAgent x).burst = s.burst := rfl
@[simp] theorem triggers_withAgent (s : State) (x) : (s.withAgent x).triggers = s.triggers := rfl
@[simp] theorem channels_withAgent (s : State) (x) : (s.withAgent x).channels = s.channels := rfl
@[simp] theorem watches_withAgent (s : State) (x) : (s.withAgent x).watches = s.watches := rfl
@[simp] theorem trains_withAgent (s : State) (x) : (s.withAgent x).trains = s.trains := rfl
@[simp] theorem timers_withAgent (s : State) (x) : (s.withAgent x).timers = s.timers := rfl
@[simp] theorem outputs_withAgent (s : State) (x) : (s.withAgent x).outputs = s.outputs := rfl
@[simp] theorem inputs_withAgent (s : State) (x) : (s.withAgent x).inputs = s.inputs := rfl
@[simp] theorem patches_withAgent (s : State) (x) : (s.withAgent x).patches = s.patches := rfl
@[simp] theorem report_withAgent (s : State) (x) : (s.withAgent x).report = s.report := rfl
@[simp] theorem banks_withAgent (s : State) (x) : (s.withAgent x).banks = s.banks := rfl
@[simp] theorem agent_withAgent (s : State) (x) : (s.withAgent x).agent = x := rfl
@[simp] theorem engine_withAgent (s : State) (x) : (s.withAgent x).engine = s.engine := rfl
@[simp] theorem faults_withAgent (s : State) (x) : (s.withAgent x).faults = s.faults := rfl
@[simp] theorem counters_withAgent (s : State) (x) : (s.withAgent x).counters = s.counters := rfl
@[simp] theorem pending_withAgent (s : State) (x) : (s.withAgent x).pending = s.pending := rfl
@[simp] theorem freeIdx_withAgent (s : State) (x) : (s.withAgent x).freeIdx = s.freeIdx := rfl

@[simp] theorem link_withEngine (s : State) (x) : (s.withEngine x).link = s.link := rfl
@[simp] theorem forward_withEngine (s : State) (x) : (s.withEngine x).forward = s.forward := rfl
@[simp] theorem tracker_withEngine (s : State) (x) : (s.withEngine x).tracker = s.tracker := rfl
@[simp] theorem now_withEngine (s : State) (x) : (s.withEngine x).now = s.now := rfl
@[simp] theorem intake_withEngine (s : State) (x) : (s.withEngine x).intake = s.intake := rfl
@[simp] theorem burst_withEngine (s : State) (x) : (s.withEngine x).burst = s.burst := rfl
@[simp] theorem triggers_withEngine (s : State) (x) : (s.withEngine x).triggers = s.triggers := rfl
@[simp] theorem channels_withEngine (s : State) (x) : (s.withEngine x).channels = s.channels := rfl
@[simp] theorem watches_withEngine (s : State) (x) : (s.withEngine x).watches = s.watches := rfl
@[simp] theorem trains_withEngine (s : State) (x) : (s.withEngine x).trains = s.trains := rfl
@[simp] theorem timers_withEngine (s : State) (x) : (s.withEngine x).timers = s.timers := rfl
@[simp] theorem outputs_withEngine (s : State) (x) : (s.withEngine x).outputs = s.outputs := rfl
@[simp] theorem inputs_withEngine (s : State) (x) : (s.withEngine x).inputs = s.inputs := rfl
@[simp] theorem patches_withEngine (s : State) (x) : (s.withEngine x).patches = s.patches := rfl
@[simp] theorem report_withEngine (s : State) (x) : (s.withEngine x).report = s.report := rfl
@[simp] theorem banks_withEngine (s : State) (x) : (s.withEngine x).banks = s.banks := rfl
@[simp] theorem agent_withEngine (s : State) (x) : (s.withEngine x).agent = s.agent := rfl
@[simp] theorem engine_withEngine (s : State) (x) : (s.withEngine x).engine = x := rfl
@[simp] theorem faults_withEngine (s : State) (x) : (s.withEngine x).faults = s.faults := rfl
@[simp] theorem counters_withEngine (s : State) (x) : (s.withEngine x).counters = s.counters := rfl
@[simp] theorem pending_withEngine (s : State) (x) : (s.withEngine x).pending = s.pending := rfl
@[simp] theorem freeIdx_withEngine (s : State) (x) : (s.withEngine x).freeIdx = s.freeIdx := rfl

@[simp] theorem link_withFaults (s : State) (x) : (s.withFaults x).link = s.link := rfl
@[simp] theorem forward_withFaults (s : State) (x) : (s.withFaults x).forward = s.forward := rfl
@[simp] theorem tracker_withFaults (s : State) (x) : (s.withFaults x).tracker = s.tracker := rfl
@[simp] theorem now_withFaults (s : State) (x) : (s.withFaults x).now = s.now := rfl
@[simp] theorem intake_withFaults (s : State) (x) : (s.withFaults x).intake = s.intake := rfl
@[simp] theorem burst_withFaults (s : State) (x) : (s.withFaults x).burst = s.burst := rfl
@[simp] theorem triggers_withFaults (s : State) (x) : (s.withFaults x).triggers = s.triggers := rfl
@[simp] theorem channels_withFaults (s : State) (x) : (s.withFaults x).channels = s.channels := rfl
@[simp] theorem watches_withFaults (s : State) (x) : (s.withFaults x).watches = s.watches := rfl
@[simp] theorem trains_withFaults (s : State) (x) : (s.withFaults x).trains = s.trains := rfl
@[simp] theorem timers_withFaults (s : State) (x) : (s.withFaults x).timers = s.timers := rfl
@[simp] theorem outputs_withFaults (s : State) (x) : (s.withFaults x).outputs = s.outputs := rfl
@[simp] theorem inputs_withFaults (s : State) (x) : (s.withFaults x).inputs = s.inputs := rfl
@[simp] theorem patches_withFaults (s : State) (x) : (s.withFaults x).patches = s.patches := rfl
@[simp] theorem report_withFaults (s : State) (x) : (s.withFaults x).report = s.report := rfl
@[simp] theorem banks_withFaults (s : State) (x) : (s.withFaults x).banks = s.banks := rfl
@[simp] theorem agent_withFaults (s : State) (x) : (s.withFaults x).agent = s.agent := rfl
@[simp] theorem engine_withFaults (s : State) (x) : (s.withFaults x).engine = s.engine := rfl
@[simp] theorem faults_withFaults (s : State) (x) : (s.withFaults x).faults = x := rfl
@[simp] theorem counters_withFaults (s : State) (x) : (s.withFaults x).counters = s.counters := rfl
@[simp] theorem pending_withFaults (s : State) (x) : (s.withFaults x).pending = s.pending := rfl
@[simp] theorem freeIdx_withFaults (s : State) (x) : (s.withFaults x).freeIdx = s.freeIdx := rfl

@[simp] theorem link_withCounters (s : State) (x) : (s.withCounters x).link = s.link := rfl
@[simp] theorem forward_withCounters (s : State) (x) : (s.withCounters x).forward = s.forward := rfl
@[simp] theorem tracker_withCounters (s : State) (x) : (s.withCounters x).tracker = s.tracker := rfl
@[simp] theorem now_withCounters (s : State) (x) : (s.withCounters x).now = s.now := rfl
@[simp] theorem intake_withCounters (s : State) (x) : (s.withCounters x).intake = s.intake := rfl
@[simp] theorem burst_withCounters (s : State) (x) : (s.withCounters x).burst = s.burst := rfl
@[simp] theorem triggers_withCounters (s : State) (x) : (s.withCounters x).triggers = s.triggers := rfl
@[simp] theorem channels_withCounters (s : State) (x) : (s.withCounters x).channels = s.channels := rfl
@[simp] theorem watches_withCounters (s : State) (x) : (s.withCounters x).watches = s.watches := rfl
@[simp] theorem trains_withCounters (s : State) (x) : (s.withCounters x).trains = s.trains := rfl
@[simp] theorem timers_withCounters (s : State) (x) : (s.withCounters x).timers = s.timers := rfl
@[simp] theorem outputs_withCounters (s : State) (x) : (s.withCounters x).outputs = s.outputs := rfl
@[simp] theorem inputs_withCounters (s : State) (x) : (s.withCounters x).inputs = s.inputs := rfl
@[simp] theorem patches_withCounters (s : State) (x) : (s.withCounters x).patches = s.patches := rfl
@[simp] theorem report_withCounters (s : State) (x) : (s.withCounters x).report = s.report := rfl
@[simp] theorem banks_withCounters (s : State) (x) : (s.withCounters x).banks = s.banks := rfl
@[simp] theorem agent_withCounters (s : State) (x) : (s.withCounters x).agent = s.agent := rfl
@[simp] theorem engine_withCounters (s : State) (x) : (s.withCounters x).engine = s.engine := rfl
@[simp] theorem faults_withCounters (s : State) (x) : (s.withCounters x).faults = s.faults := rfl
@[simp] theorem counters_withCounters (s : State) (x) : (s.withCounters x).counters = x := rfl
@[simp] theorem pending_withCounters (s : State) (x) : (s.withCounters x).pending = s.pending := rfl
@[simp] theorem freeIdx_withCounters (s : State) (x) : (s.withCounters x).freeIdx = s.freeIdx := rfl

@[simp] theorem link_withPending (s : State) (x) : (s.withPending x).link = s.link := rfl
@[simp] theorem forward_withPending (s : State) (x) : (s.withPending x).forward = s.forward := rfl
@[simp] theorem tracker_withPending (s : State) (x) : (s.withPending x).tracker = s.tracker := rfl
@[simp] theorem now_withPending (s : State) (x) : (s.withPending x).now = s.now := rfl
@[simp] theorem intake_withPending (s : State) (x) : (s.withPending x).intake = s.intake := rfl
@[simp] theorem burst_withPending (s : State) (x) : (s.withPending x).burst = s.burst := rfl
@[simp] theorem triggers_withPending (s : State) (x) : (s.withPending x).triggers = s.triggers := rfl
@[simp] theorem channels_withPending (s : State) (x) : (s.withPending x).channels = s.channels := rfl
@[simp] theorem watches_withPending (s : State) (x) : (s.withPending x).watches = s.watches := rfl
@[simp] theorem trains_withPending (s : State) (x) : (s.withPending x).trains = s.trains := rfl
@[simp] theorem timers_withPending (s : State) (x) : (s.withPending x).timers = s.timers := rfl
@[simp] theorem outputs_withPending (s : State) (x) : (s.withPending x).outputs = s.outputs := rfl
@[simp] theorem inputs_withPending (s : State) (x) : (s.withPending x).inputs = s.inputs := rfl
@[simp] theorem patches_withPending (s : State) (x) : (s.withPending x).patches = s.patches := rfl
@[simp] theorem report_withPending (s : State) (x) : (s.withPending x).report = s.report := rfl
@[simp] theorem banks_withPending (s : State) (x) : (s.withPending x).banks = s.banks := rfl
@[simp] theorem agent_withPending (s : State) (x) : (s.withPending x).agent = s.agent := rfl
@[simp] theorem engine_withPending (s : State) (x) : (s.withPending x).engine = s.engine := rfl
@[simp] theorem faults_withPending (s : State) (x) : (s.withPending x).faults = s.faults := rfl
@[simp] theorem counters_withPending (s : State) (x) : (s.withPending x).counters = s.counters := rfl
@[simp] theorem pending_withPending (s : State) (x) : (s.withPending x).pending = x := rfl
@[simp] theorem freeIdx_withPending (s : State) (x) : (s.withPending x).freeIdx = s.freeIdx := rfl

@[simp] theorem link_withFreeIdx (s : State) (x) : (s.withFreeIdx x).link = s.link := rfl
@[simp] theorem forward_withFreeIdx (s : State) (x) : (s.withFreeIdx x).forward = s.forward := rfl
@[simp] theorem tracker_withFreeIdx (s : State) (x) : (s.withFreeIdx x).tracker = s.tracker := rfl
@[simp] theorem now_withFreeIdx (s : State) (x) : (s.withFreeIdx x).now = s.now := rfl
@[simp] theorem intake_withFreeIdx (s : State) (x) : (s.withFreeIdx x).intake = s.intake := rfl
@[simp] theorem burst_withFreeIdx (s : State) (x) : (s.withFreeIdx x).burst = s.burst := rfl
@[simp] theorem triggers_withFreeIdx (s : State) (x) : (s.withFreeIdx x).triggers = s.triggers := rfl
@[simp] theorem channels_withFreeIdx (s : State) (x) : (s.withFreeIdx x).channels = s.channels := rfl
@[simp] theorem watches_withFreeIdx (s : State) (x) : (s.withFreeIdx x).watches = s.watches := rfl
@[simp] theorem trains_withFreeIdx (s : State) (x) : (s.withFreeIdx x).trains = s.trains := rfl
@[simp] theorem timers_withFreeIdx (s : State) (x) : (s.withFreeIdx x).timers = s.timers := rfl
@[simp] theorem outputs_withFreeIdx (s : State) (x) : (s.withFreeIdx x).outputs = s.outputs := rfl
@[simp] theorem inputs_withFreeIdx (s : State) (x) : (s.withFreeIdx x).inputs = s.inputs := rfl
@[simp] theorem patches_withFreeIdx (s : State) (x) : (s.withFreeIdx x).patches = s.patches := rfl
@[simp] theorem report_withFreeIdx (s : State) (x) : (s.withFreeIdx x).report = s.report := rfl
@[simp] theorem banks_withFreeIdx (s : State) (x) : (s.withFreeIdx x).banks = s.banks := rfl
@[simp] theorem agent_withFreeIdx (s : State) (x) : (s.withFreeIdx x).agent = s.agent := rfl
@[simp] theorem engine_withFreeIdx (s : State) (x) : (s.withFreeIdx x).engine = s.engine := rfl
@[simp] theorem faults_withFreeIdx (s : State) (x) : (s.withFreeIdx x).faults = s.faults := rfl
@[simp] theorem counters_withFreeIdx (s : State) (x) : (s.withFreeIdx x).counters = s.counters := rfl
@[simp] theorem pending_withFreeIdx (s : State) (x) : (s.withFreeIdx x).pending = s.pending := rfl
@[simp] theorem freeIdx_withFreeIdx (s : State) (x) : (s.withFreeIdx x).freeIdx = x := rfl

end Sys2Proof.Machine.State
end

