-- ==== Sys2Proof/Laws/Frames.lean ====
section
/-! SUPPORT. What each shared operation leaves unchanged: one line for each operation and each field it does not touch. -/

namespace Sys2Proof.Machine

/-- What every step of a pass over a list keeps, the pass keeps. -/
theorem overList_keep {α β : Type} (g : State → β) (f : State → α → State) (h : ∀ s a, g (f s a) = g s) (s : State)
    (l : List α) : g (overList f s l) = g s := by
  induction l generalizing s with
  | nil => rfl
  | cons a l ih => exact (ih (f s a)).trans (h s a)

/-- Bringing an element to the front keeps the length. -/
theorem length_bringFront {α : Type} (i : Nat) (l : List α) : (bringFront i l).length = l.length := by
  unfold bringFront
  split
  · rename_i a h
    have hi : i < l.length := by
      by_contra hn
      rw [List.getElem?_eq_none (Nat.le_of_not_lt hn)] at h
      cases h
    rw [List.length_cons, List.length_eraseIdx_of_lt hi]
    omega
  · rfl

@[simp] theorem shuffle_link {α : Type} (n : Nat) (s : State) (l : List α) : (shuffle n s l).1.link = s.link := by
  induction n generalizing s l with
  | zero => rfl
  | succ n ih => unfold shuffle; split <;> simp [ih, State.spend]

@[simp] theorem shuffle_forward {α : Type} (n : Nat) (s : State) (l : List α) : (shuffle n s l).1.forward = s.forward := by
  induction n generalizing s l with
  | zero => rfl
  | succ n ih => unfold shuffle; split <;> simp [ih, State.spend]

@[simp] theorem shuffle_tracker {α : Type} (n : Nat) (s : State) (l : List α) : (shuffle n s l).1.tracker = s.tracker := by
  induction n generalizing s l with
  | zero => rfl
  | succ n ih => unfold shuffle; split <;> simp [ih, State.spend]

@[simp] theorem shuffle_now {α : Type} (n : Nat) (s : State) (l : List α) : (shuffle n s l).1.now = s.now := by
  induction n generalizing s l with
  | zero => rfl
  | succ n ih => unfold shuffle; split <;> simp [ih, State.spend]

@[simp] theorem shuffle_intake {α : Type} (n : Nat) (s : State) (l : List α) : (shuffle n s l).1.intake = s.intake := by
  induction n generalizing s l with
  | zero => rfl
  | succ n ih => unfold shuffle; split <;> simp [ih, State.spend]

@[simp] theorem shuffle_burst {α : Type} (n : Nat) (s : State) (l : List α) : (shuffle n s l).1.burst = s.burst := by
  induction n generalizing s l with
  | zero => rfl
  | succ n ih => unfold shuffle; split <;> simp [ih, State.spend]

@[simp] theorem shuffle_triggers {α : Type} (n : Nat) (s : State) (l : List α) : (shuffle n s l).1.triggers = s.triggers := by
  induction n generalizing s l with
  | zero => rfl
  | succ n ih => unfold shuffle; split <;> simp [ih, State.spend]

@[simp] theorem shuffle_channels {α : Type} (n : Nat) (s : State) (l : List α) : (shuffle n s l).1.channels = s.channels := by
  induction n generalizing s l with
  | zero => rfl
  | succ n ih => unfold shuffle; split <;> simp [ih, State.spend]

@[simp] theorem shuffle_watches {α : Type} (n : Nat) (s : State) (l : List α) : (shuffle n s l).1.watches = s.watches := by
  induction n generalizing s l with
  | zero => rfl
  | succ n ih => unfold shuffle; split <;> simp [ih, State.spend]

@[simp] theorem shuffle_trains {α : Type} (n : Nat) (s : State) (l : List α) : (shuffle n s l).1.trains = s.trains := by
  induction n generalizing s l with
  | zero => rfl
  | succ n ih => unfold shuffle; split <;> simp [ih, State.spend]

@[simp] theorem shuffle_timers {α : Type} (n : Nat) (s : State) (l : List α) : (shuffle n s l).1.timers = s.timers := by
  induction n generalizing s l with
  | zero => rfl
  | succ n ih => unfold shuffle; split <;> simp [ih, State.spend]

@[simp] theorem shuffle_outputs {α : Type} (n : Nat) (s : State) (l : List α) : (shuffle n s l).1.outputs = s.outputs := by
  induction n generalizing s l with
  | zero => rfl
  | succ n ih => unfold shuffle; split <;> simp [ih, State.spend]

@[simp] theorem shuffle_inputs {α : Type} (n : Nat) (s : State) (l : List α) : (shuffle n s l).1.inputs = s.inputs := by
  induction n generalizing s l with
  | zero => rfl
  | succ n ih => unfold shuffle; split <;> simp [ih, State.spend]

@[simp] theorem shuffle_patches {α : Type} (n : Nat) (s : State) (l : List α) : (shuffle n s l).1.patches = s.patches := by
  induction n generalizing s l with
  | zero => rfl
  | succ n ih => unfold shuffle; split <;> simp [ih, State.spend]

@[simp] theorem shuffle_report {α : Type} (n : Nat) (s : State) (l : List α) : (shuffle n s l).1.report = s.report := by
  induction n generalizing s l with
  | zero => rfl
  | succ n ih => unfold shuffle; split <;> simp [ih, State.spend]

@[simp] theorem shuffle_banks {α : Type} (n : Nat) (s : State) (l : List α) : (shuffle n s l).1.banks = s.banks := by
  induction n generalizing s l with
  | zero => rfl
  | succ n ih => unfold shuffle; split <;> simp [ih, State.spend]

@[simp] theorem shuffle_agent {α : Type} (n : Nat) (s : State) (l : List α) : (shuffle n s l).1.agent = s.agent := by
  induction n generalizing s l with
  | zero => rfl
  | succ n ih => unfold shuffle; split <;> simp [ih, State.spend]

@[simp] theorem shuffle_engine {α : Type} (n : Nat) (s : State) (l : List α) : (shuffle n s l).1.engine = s.engine := by
  induction n generalizing s l with
  | zero => rfl
  | succ n ih => unfold shuffle; split <;> simp [ih, State.spend]

@[simp] theorem shuffle_faults {α : Type} (n : Nat) (s : State) (l : List α) : (shuffle n s l).1.faults = s.faults := by
  induction n generalizing s l with
  | zero => rfl
  | succ n ih => unfold shuffle; split <;> simp [ih, State.spend]

@[simp] theorem shuffle_counters {α : Type} (n : Nat) (s : State) (l : List α) : (shuffle n s l).1.counters = s.counters := by
  induction n generalizing s l with
  | zero => rfl
  | succ n ih => unfold shuffle; split <;> simp [ih, State.spend]

@[simp] theorem shuffle_pending {α : Type} (n : Nat) (s : State) (l : List α) : (shuffle n s l).1.pending = s.pending := by
  induction n generalizing s l with
  | zero => rfl
  | succ n ih => unfold shuffle; split <;> simp [ih, State.spend]

namespace State

@[simp] theorem bumpBy_link (s : State) (c : Counter) (n : Nat) : (s.bumpBy c n).link = s.link := by
  rfl
@[simp] theorem bumpBy_forward (s : State) (c : Counter) (n : Nat) : (s.bumpBy c n).forward = s.forward := by
  rfl
@[simp] theorem bumpBy_tracker (s : State) (c : Counter) (n : Nat) : (s.bumpBy c n).tracker = s.tracker := by
  rfl
@[simp] theorem bumpBy_now (s : State) (c : Counter) (n : Nat) : (s.bumpBy c n).now = s.now := by
  rfl
@[simp] theorem bumpBy_intake (s : State) (c : Counter) (n : Nat) : (s.bumpBy c n).intake = s.intake := by
  rfl
@[simp] theorem bumpBy_burst (s : State) (c : Counter) (n : Nat) : (s.bumpBy c n).burst = s.burst := by
  rfl
@[simp] theorem bumpBy_triggers (s : State) (c : Counter) (n : Nat) : (s.bumpBy c n).triggers = s.triggers := by
  rfl
@[simp] theorem bumpBy_channels (s : State) (c : Counter) (n : Nat) : (s.bumpBy c n).channels = s.channels := by
  rfl
@[simp] theorem bumpBy_watches (s : State) (c : Counter) (n : Nat) : (s.bumpBy c n).watches = s.watches := by
  rfl
@[simp] theorem bumpBy_trains (s : State) (c : Counter) (n : Nat) : (s.bumpBy c n).trains = s.trains := by
  rfl
@[simp] theorem bumpBy_timers (s : State) (c : Counter) (n : Nat) : (s.bumpBy c n).timers = s.timers := by
  rfl
@[simp] theorem bumpBy_outputs (s : State) (c : Counter) (n : Nat) : (s.bumpBy c n).outputs = s.outputs := by
  rfl
@[simp] theorem bumpBy_inputs (s : State) (c : Counter) (n : Nat) : (s.bumpBy c n).inputs = s.inputs := by
  rfl
@[simp] theorem bumpBy_patches (s : State) (c : Counter) (n : Nat) : (s.bumpBy c n).patches = s.patches := by
  rfl
@[simp] theorem bumpBy_report (s : State) (c : Counter) (n : Nat) : (s.bumpBy c n).report = s.report := by
  rfl
@[simp] theorem bumpBy_banks (s : State) (c : Counter) (n : Nat) : (s.bumpBy c n).banks = s.banks := by
  rfl
@[simp] theorem bumpBy_agent (s : State) (c : Counter) (n : Nat) : (s.bumpBy c n).agent = s.agent := by
  rfl
@[simp] theorem bumpBy_engine (s : State) (c : Counter) (n : Nat) : (s.bumpBy c n).engine = s.engine := by
  rfl
@[simp] theorem bumpBy_faults (s : State) (c : Counter) (n : Nat) : (s.bumpBy c n).faults = s.faults := by
  rfl
@[simp] theorem bumpBy_pending (s : State) (c : Counter) (n : Nat) : (s.bumpBy c n).pending = s.pending := by
  rfl
@[simp] theorem bumpBy_freeIdx (s : State) (c : Counter) (n : Nat) : (s.bumpBy c n).freeIdx = s.freeIdx := by
  rfl

@[simp] theorem bump_link (s : State) (c : Counter) : (s.bump c).link = s.link := by
  rfl
@[simp] theorem bump_forward (s : State) (c : Counter) : (s.bump c).forward = s.forward := by
  rfl
@[simp] theorem bump_tracker (s : State) (c : Counter) : (s.bump c).tracker = s.tracker := by
  rfl
@[simp] theorem bump_now (s : State) (c : Counter) : (s.bump c).now = s.now := by
  rfl
@[simp] theorem bump_intake (s : State) (c : Counter) : (s.bump c).intake = s.intake := by
  rfl
@[simp] theorem bump_burst (s : State) (c : Counter) : (s.bump c).burst = s.burst := by
  rfl
@[simp] theorem bump_triggers (s : State) (c : Counter) : (s.bump c).triggers = s.triggers := by
  rfl
@[simp] theorem bump_channels (s : State) (c : Counter) : (s.bump c).channels = s.channels := by
  rfl
@[simp] theorem bump_watches (s : State) (c : Counter) : (s.bump c).watches = s.watches := by
  rfl
@[simp] theorem bump_trains (s : State) (c : Counter) : (s.bump c).trains = s.trains := by
  rfl
@[simp] theorem bump_timers (s : State) (c : Counter) : (s.bump c).timers = s.timers := by
  rfl
@[simp] theorem bump_outputs (s : State) (c : Counter) : (s.bump c).outputs = s.outputs := by
  rfl
@[simp] theorem bump_inputs (s : State) (c : Counter) : (s.bump c).inputs = s.inputs := by
  rfl
@[simp] theorem bump_patches (s : State) (c : Counter) : (s.bump c).patches = s.patches := by
  rfl
@[simp] theorem bump_report (s : State) (c : Counter) : (s.bump c).report = s.report := by
  rfl
@[simp] theorem bump_banks (s : State) (c : Counter) : (s.bump c).banks = s.banks := by
  rfl
@[simp] theorem bump_agent (s : State) (c : Counter) : (s.bump c).agent = s.agent := by
  rfl
@[simp] theorem bump_engine (s : State) (c : Counter) : (s.bump c).engine = s.engine := by
  rfl
@[simp] theorem bump_faults (s : State) (c : Counter) : (s.bump c).faults = s.faults := by
  rfl
@[simp] theorem bump_pending (s : State) (c : Counter) : (s.bump c).pending = s.pending := by
  rfl
@[simp] theorem bump_freeIdx (s : State) (c : Counter) : (s.bump c).freeIdx = s.freeIdx := by
  rfl

@[simp] theorem setFault_link (s : State) (k : Fin 6) : (s.setFault k).link = s.link := by
  rfl
@[simp] theorem setFault_forward (s : State) (k : Fin 6) : (s.setFault k).forward = s.forward := by
  rfl
@[simp] theorem setFault_tracker (s : State) (k : Fin 6) : (s.setFault k).tracker = s.tracker := by
  rfl
@[simp] theorem setFault_now (s : State) (k : Fin 6) : (s.setFault k).now = s.now := by
  rfl
@[simp] theorem setFault_intake (s : State) (k : Fin 6) : (s.setFault k).intake = s.intake := by
  rfl
@[simp] theorem setFault_burst (s : State) (k : Fin 6) : (s.setFault k).burst = s.burst := by
  rfl
@[simp] theorem setFault_triggers (s : State) (k : Fin 6) : (s.setFault k).triggers = s.triggers := by
  rfl
@[simp] theorem setFault_channels (s : State) (k : Fin 6) : (s.setFault k).channels = s.channels := by
  rfl
@[simp] theorem setFault_watches (s : State) (k : Fin 6) : (s.setFault k).watches = s.watches := by
  rfl
@[simp] theorem setFault_trains (s : State) (k : Fin 6) : (s.setFault k).trains = s.trains := by
  rfl
@[simp] theorem setFault_timers (s : State) (k : Fin 6) : (s.setFault k).timers = s.timers := by
  rfl
@[simp] theorem setFault_outputs (s : State) (k : Fin 6) : (s.setFault k).outputs = s.outputs := by
  rfl
@[simp] theorem setFault_inputs (s : State) (k : Fin 6) : (s.setFault k).inputs = s.inputs := by
  rfl
@[simp] theorem setFault_patches (s : State) (k : Fin 6) : (s.setFault k).patches = s.patches := by
  rfl
@[simp] theorem setFault_report (s : State) (k : Fin 6) : (s.setFault k).report = s.report := by
  rfl
@[simp] theorem setFault_banks (s : State) (k : Fin 6) : (s.setFault k).banks = s.banks := by
  rfl
@[simp] theorem setFault_agent (s : State) (k : Fin 6) : (s.setFault k).agent = s.agent := by
  rfl
@[simp] theorem setFault_engine (s : State) (k : Fin 6) : (s.setFault k).engine = s.engine := by
  rfl
@[simp] theorem setFault_counters (s : State) (k : Fin 6) : (s.setFault k).counters = s.counters := by
  rfl
@[simp] theorem setFault_pending (s : State) (k : Fin 6) : (s.setFault k).pending = s.pending := by
  rfl
@[simp] theorem setFault_freeIdx (s : State) (k : Fin 6) : (s.setFault k).freeIdx = s.freeIdx := by
  rfl

@[simp] theorem clearFault_link (s : State) (k : Fin 6) : (s.clearFault k).link = s.link := by
  rfl
@[simp] theorem clearFault_forward (s : State) (k : Fin 6) : (s.clearFault k).forward = s.forward := by
  rfl
@[simp] theorem clearFault_tracker (s : State) (k : Fin 6) : (s.clearFault k).tracker = s.tracker := by
  rfl
@[simp] theorem clearFault_now (s : State) (k : Fin 6) : (s.clearFault k).now = s.now := by
  rfl
@[simp] theorem clearFault_intake (s : State) (k : Fin 6) : (s.clearFault k).intake = s.intake := by
  rfl
@[simp] theorem clearFault_burst (s : State) (k : Fin 6) : (s.clearFault k).burst = s.burst := by
  rfl
@[simp] theorem clearFault_triggers (s : State) (k : Fin 6) : (s.clearFault k).triggers = s.triggers := by
  rfl
@[simp] theorem clearFault_channels (s : State) (k : Fin 6) : (s.clearFault k).channels = s.channels := by
  rfl
@[simp] theorem clearFault_watches (s : State) (k : Fin 6) : (s.clearFault k).watches = s.watches := by
  rfl
@[simp] theorem clearFault_trains (s : State) (k : Fin 6) : (s.clearFault k).trains = s.trains := by
  rfl
@[simp] theorem clearFault_timers (s : State) (k : Fin 6) : (s.clearFault k).timers = s.timers := by
  rfl
@[simp] theorem clearFault_outputs (s : State) (k : Fin 6) : (s.clearFault k).outputs = s.outputs := by
  rfl
@[simp] theorem clearFault_inputs (s : State) (k : Fin 6) : (s.clearFault k).inputs = s.inputs := by
  rfl
@[simp] theorem clearFault_patches (s : State) (k : Fin 6) : (s.clearFault k).patches = s.patches := by
  rfl
@[simp] theorem clearFault_report (s : State) (k : Fin 6) : (s.clearFault k).report = s.report := by
  rfl
@[simp] theorem clearFault_banks (s : State) (k : Fin 6) : (s.clearFault k).banks = s.banks := by
  rfl
@[simp] theorem clearFault_agent (s : State) (k : Fin 6) : (s.clearFault k).agent = s.agent := by
  rfl
@[simp] theorem clearFault_engine (s : State) (k : Fin 6) : (s.clearFault k).engine = s.engine := by
  rfl
@[simp] theorem clearFault_counters (s : State) (k : Fin 6) : (s.clearFault k).counters = s.counters := by
  rfl
@[simp] theorem clearFault_pending (s : State) (k : Fin 6) : (s.clearFault k).pending = s.pending := by
  rfl
@[simp] theorem clearFault_freeIdx (s : State) (k : Fin 6) : (s.clearFault k).freeIdx = s.freeIdx := by
  rfl

@[simp] theorem spend_link (s : State) : (s.spend).link = s.link := by
  rfl
@[simp] theorem spend_forward (s : State) : (s.spend).forward = s.forward := by
  rfl
@[simp] theorem spend_tracker (s : State) : (s.spend).tracker = s.tracker := by
  rfl
@[simp] theorem spend_now (s : State) : (s.spend).now = s.now := by
  rfl
@[simp] theorem spend_intake (s : State) : (s.spend).intake = s.intake := by
  rfl
@[simp] theorem spend_burst (s : State) : (s.spend).burst = s.burst := by
  rfl
@[simp] theorem spend_triggers (s : State) : (s.spend).triggers = s.triggers := by
  rfl
@[simp] theorem spend_channels (s : State) : (s.spend).channels = s.channels := by
  rfl
@[simp] theorem spend_watches (s : State) : (s.spend).watches = s.watches := by
  rfl
@[simp] theorem spend_trains (s : State) : (s.spend).trains = s.trains := by
  rfl
@[simp] theorem spend_timers (s : State) : (s.spend).timers = s.timers := by
  rfl
@[simp] theorem spend_outputs (s : State) : (s.spend).outputs = s.outputs := by
  rfl
@[simp] theorem spend_inputs (s : State) : (s.spend).inputs = s.inputs := by
  rfl
@[simp] theorem spend_patches (s : State) : (s.spend).patches = s.patches := by
  rfl
@[simp] theorem spend_report (s : State) : (s.spend).report = s.report := by
  rfl
@[simp] theorem spend_banks (s : State) : (s.spend).banks = s.banks := by
  rfl
@[simp] theorem spend_agent (s : State) : (s.spend).agent = s.agent := by
  rfl
@[simp] theorem spend_engine (s : State) : (s.spend).engine = s.engine := by
  rfl
@[simp] theorem spend_faults (s : State) : (s.spend).faults = s.faults := by
  rfl
@[simp] theorem spend_counters (s : State) : (s.spend).counters = s.counters := by
  rfl
@[simp] theorem spend_pending (s : State) : (s.spend).pending = s.pending := by
  rfl

@[simp] theorem disarmFor_link (s : State) (k : Fin 6) : (s.disarmFor k).link = s.link := by
  unfold State.disarmFor; (try split) <;> simp
@[simp] theorem disarmFor_forward (s : State) (k : Fin 6) : (s.disarmFor k).forward = s.forward := by
  unfold State.disarmFor; (try split) <;> simp
@[simp] theorem disarmFor_tracker (s : State) (k : Fin 6) : (s.disarmFor k).tracker = s.tracker := by
  unfold State.disarmFor; (try split) <;> simp
@[simp] theorem disarmFor_now (s : State) (k : Fin 6) : (s.disarmFor k).now = s.now := by
  unfold State.disarmFor; (try split) <;> simp
@[simp] theorem disarmFor_intake (s : State) (k : Fin 6) : (s.disarmFor k).intake = s.intake := by
  unfold State.disarmFor; (try split) <;> simp
@[simp] theorem disarmFor_burst (s : State) (k : Fin 6) : (s.disarmFor k).burst = s.burst := by
  unfold State.disarmFor; (try split) <;> simp
@[simp] theorem disarmFor_triggers (s : State) (k : Fin 6) : (s.disarmFor k).triggers = s.triggers := by
  unfold State.disarmFor; (try split) <;> simp
@[simp] theorem disarmFor_channels (s : State) (k : Fin 6) : (s.disarmFor k).channels = s.channels := by
  unfold State.disarmFor; (try split) <;> simp
@[simp] theorem disarmFor_watches (s : State) (k : Fin 6) : (s.disarmFor k).watches = s.watches := by
  unfold State.disarmFor; (try split) <;> simp
@[simp] theorem disarmFor_trains (s : State) (k : Fin 6) : (s.disarmFor k).trains = s.trains := by
  unfold State.disarmFor; (try split) <;> simp
@[simp] theorem disarmFor_timers (s : State) (k : Fin 6) : (s.disarmFor k).timers = s.timers := by
  unfold State.disarmFor; (try split) <;> simp
@[simp] theorem disarmFor_outputs (s : State) (k : Fin 6) : (s.disarmFor k).outputs = s.outputs := by
  unfold State.disarmFor; (try split) <;> simp
@[simp] theorem disarmFor_inputs (s : State) (k : Fin 6) : (s.disarmFor k).inputs = s.inputs := by
  unfold State.disarmFor; (try split) <;> simp
@[simp] theorem disarmFor_patches (s : State) (k : Fin 6) : (s.disarmFor k).patches = s.patches := by
  unfold State.disarmFor; (try split) <;> simp
@[simp] theorem disarmFor_report (s : State) (k : Fin 6) : (s.disarmFor k).report = s.report := by
  unfold State.disarmFor; (try split) <;> simp
@[simp] theorem disarmFor_banks (s : State) (k : Fin 6) : (s.disarmFor k).banks = s.banks := by
  unfold State.disarmFor; (try split) <;> simp
@[simp] theorem disarmFor_agent (s : State) (k : Fin 6) : (s.disarmFor k).agent = s.agent := by
  unfold State.disarmFor; (try split) <;> simp
@[simp] theorem disarmFor_faults (s : State) (k : Fin 6) : (s.disarmFor k).faults = s.faults := by
  unfold State.disarmFor; (try split) <;> simp
@[simp] theorem disarmFor_counters (s : State) (k : Fin 6) : (s.disarmFor k).counters = s.counters := by
  unfold State.disarmFor; (try split) <;> simp
@[simp] theorem disarmFor_pending (s : State) (k : Fin 6) : (s.disarmFor k).pending = s.pending := by
  unfold State.disarmFor; (try split) <;> simp
@[simp] theorem disarmFor_freeIdx (s : State) (k : Fin 6) : (s.disarmFor k).freeIdx = s.freeIdx := by
  unfold State.disarmFor; (try split) <;> simp

@[simp] theorem countLoss_link (s : State) : (s.countLoss).link = s.link := by
  rfl
@[simp] theorem countLoss_forward (s : State) : (s.countLoss).forward = s.forward := by
  rfl
@[simp] theorem countLoss_tracker (s : State) : (s.countLoss).tracker = s.tracker := by
  rfl
@[simp] theorem countLoss_now (s : State) : (s.countLoss).now = s.now := by
  rfl
@[simp] theorem countLoss_intake (s : State) : (s.countLoss).intake = s.intake := by
  rfl
@[simp] theorem countLoss_burst (s : State) : (s.countLoss).burst = s.burst := by
  rfl
@[simp] theorem countLoss_triggers (s : State) : (s.countLoss).triggers = s.triggers := by
  rfl
@[simp] theorem countLoss_channels (s : State) : (s.countLoss).channels = s.channels := by
  rfl
@[simp] theorem countLoss_watches (s : State) : (s.countLoss).watches = s.watches := by
  rfl
@[simp] theorem countLoss_trains (s : State) : (s.countLoss).trains = s.trains := by
  rfl
@[simp] theorem countLoss_timers (s : State) : (s.countLoss).timers = s.timers := by
  rfl
@[simp] theorem countLoss_outputs (s : State) : (s.countLoss).outputs = s.outputs := by
  rfl
@[simp] theorem countLoss_inputs (s : State) : (s.countLoss).inputs = s.inputs := by
  rfl
@[simp] theorem countLoss_patches (s : State) : (s.countLoss).patches = s.patches := by
  rfl
@[simp] theorem countLoss_banks (s : State) : (s.countLoss).banks = s.banks := by
  rfl
@[simp] theorem countLoss_agent (s : State) : (s.countLoss).agent = s.agent := by
  rfl
@[simp] theorem countLoss_engine (s : State) : (s.countLoss).engine = s.engine := by
  rfl
@[simp] theorem countLoss_faults (s : State) : (s.countLoss).faults = s.faults := by
  rfl
@[simp] theorem countLoss_pending (s : State) : (s.countLoss).pending = s.pending := by
  rfl
@[simp] theorem countLoss_freeIdx (s : State) : (s.countLoss).freeIdx = s.freeIdx := by
  rfl

@[simp] theorem offerLoss_link (s : State) (d : Nat) : (s.offerLoss d).link = s.link := by
  simp only [State.offerLoss]; split <;> simp
@[simp] theorem offerLoss_forward (s : State) (d : Nat) : (s.offerLoss d).forward = s.forward := by
  simp only [State.offerLoss]; split <;> simp
@[simp] theorem offerLoss_tracker (s : State) (d : Nat) : (s.offerLoss d).tracker = s.tracker := by
  simp only [State.offerLoss]; split <;> simp
@[simp] theorem offerLoss_now (s : State) (d : Nat) : (s.offerLoss d).now = s.now := by
  simp only [State.offerLoss]; split <;> simp
@[simp] theorem offerLoss_intake (s : State) (d : Nat) : (s.offerLoss d).intake = s.intake := by
  simp only [State.offerLoss]; split <;> simp
@[simp] theorem offerLoss_burst (s : State) (d : Nat) : (s.offerLoss d).burst = s.burst := by
  simp only [State.offerLoss]; split <;> simp
@[simp] theorem offerLoss_triggers (s : State) (d : Nat) : (s.offerLoss d).triggers = s.triggers := by
  simp only [State.offerLoss]; split <;> simp
@[simp] theorem offerLoss_channels (s : State) (d : Nat) : (s.offerLoss d).channels = s.channels := by
  simp only [State.offerLoss]; split <;> simp
@[simp] theorem offerLoss_watches (s : State) (d : Nat) : (s.offerLoss d).watches = s.watches := by
  simp only [State.offerLoss]; split <;> simp
@[simp] theorem offerLoss_trains (s : State) (d : Nat) : (s.offerLoss d).trains = s.trains := by
  simp only [State.offerLoss]; split <;> simp
@[simp] theorem offerLoss_timers (s : State) (d : Nat) : (s.offerLoss d).timers = s.timers := by
  simp only [State.offerLoss]; split <;> simp
@[simp] theorem offerLoss_outputs (s : State) (d : Nat) : (s.offerLoss d).outputs = s.outputs := by
  simp only [State.offerLoss]; split <;> simp
@[simp] theorem offerLoss_inputs (s : State) (d : Nat) : (s.offerLoss d).inputs = s.inputs := by
  simp only [State.offerLoss]; split <;> simp
@[simp] theorem offerLoss_patches (s : State) (d : Nat) : (s.offerLoss d).patches = s.patches := by
  simp only [State.offerLoss]; split <;> simp
@[simp] theorem offerLoss_banks (s : State) (d : Nat) : (s.offerLoss d).banks = s.banks := by
  simp only [State.offerLoss]; split <;> simp
@[simp] theorem offerLoss_agent (s : State) (d : Nat) : (s.offerLoss d).agent = s.agent := by
  simp only [State.offerLoss]; split <;> simp
@[simp] theorem offerLoss_pending (s : State) (d : Nat) : (s.offerLoss d).pending = s.pending := by
  simp only [State.offerLoss]; split <;> simp
@[simp] theorem offerLoss_freeIdx (s : State) (d : Nat) : (s.offerLoss d).freeIdx = s.freeIdx := by
  simp only [State.offerLoss]; split <;> simp

@[simp] theorem lose_link (s : State) (b : RecordBody) : (s.lose b).link = s.link := by
  simp only [State.lose]; split <;> simp
@[simp] theorem lose_forward (s : State) (b : RecordBody) : (s.lose b).forward = s.forward := by
  simp only [State.lose]; split <;> simp
@[simp] theorem lose_tracker (s : State) (b : RecordBody) : (s.lose b).tracker = s.tracker := by
  simp only [State.lose]; split <;> simp
@[simp] theorem lose_now (s : State) (b : RecordBody) : (s.lose b).now = s.now := by
  simp only [State.lose]; split <;> simp
@[simp] theorem lose_intake (s : State) (b : RecordBody) : (s.lose b).intake = s.intake := by
  simp only [State.lose]; split <;> simp
@[simp] theorem lose_burst (s : State) (b : RecordBody) : (s.lose b).burst = s.burst := by
  simp only [State.lose]; split <;> simp
@[simp] theorem lose_triggers (s : State) (b : RecordBody) : (s.lose b).triggers = s.triggers := by
  simp only [State.lose]; split <;> simp
@[simp] theorem lose_channels (s : State) (b : RecordBody) : (s.lose b).channels = s.channels := by
  simp only [State.lose]; split <;> simp
@[simp] theorem lose_watches (s : State) (b : RecordBody) : (s.lose b).watches = s.watches := by
  simp only [State.lose]; split <;> simp
@[simp] theorem lose_trains (s : State) (b : RecordBody) : (s.lose b).trains = s.trains := by
  simp only [State.lose]; split <;> simp
@[simp] theorem lose_timers (s : State) (b : RecordBody) : (s.lose b).timers = s.timers := by
  simp only [State.lose]; split <;> simp
@[simp] theorem lose_outputs (s : State) (b : RecordBody) : (s.lose b).outputs = s.outputs := by
  simp only [State.lose]; split <;> simp
@[simp] theorem lose_inputs (s : State) (b : RecordBody) : (s.lose b).inputs = s.inputs := by
  simp only [State.lose]; split <;> simp
@[simp] theorem lose_patches (s : State) (b : RecordBody) : (s.lose b).patches = s.patches := by
  simp only [State.lose]; split <;> simp
@[simp] theorem lose_banks (s : State) (b : RecordBody) : (s.lose b).banks = s.banks := by
  simp only [State.lose]; split <;> simp
@[simp] theorem lose_agent (s : State) (b : RecordBody) : (s.lose b).agent = s.agent := by
  simp only [State.lose]; split <;> simp
@[simp] theorem lose_pending (s : State) (b : RecordBody) : (s.lose b).pending = s.pending := by
  simp only [State.lose]; split <;> simp
@[simp] theorem lose_freeIdx (s : State) (b : RecordBody) : (s.lose b).freeIdx = s.freeIdx := by
  simp only [State.lose]; split <;> simp

@[simp] theorem offerRecord_link (s : State) (st : Stamp) (b : RecordBody) : (s.offerRecord st b).link = s.link := by
  unfold State.offerRecord; (try split) <;> simp
@[simp] theorem offerRecord_forward (s : State) (st : Stamp) (b : RecordBody) : (s.offerRecord st b).forward = s.forward := by
  unfold State.offerRecord; (try split) <;> simp
@[simp] theorem offerRecord_tracker (s : State) (st : Stamp) (b : RecordBody) : (s.offerRecord st b).tracker = s.tracker := by
  unfold State.offerRecord; (try split) <;> simp
@[simp] theorem offerRecord_now (s : State) (st : Stamp) (b : RecordBody) : (s.offerRecord st b).now = s.now := by
  unfold State.offerRecord; (try split) <;> simp
@[simp] theorem offerRecord_intake (s : State) (st : Stamp) (b : RecordBody) : (s.offerRecord st b).intake = s.intake := by
  unfold State.offerRecord; (try split) <;> simp
@[simp] theorem offerRecord_burst (s : State) (st : Stamp) (b : RecordBody) : (s.offerRecord st b).burst = s.burst := by
  unfold State.offerRecord; (try split) <;> simp
@[simp] theorem offerRecord_triggers (s : State) (st : Stamp) (b : RecordBody) : (s.offerRecord st b).triggers = s.triggers := by
  unfold State.offerRecord; (try split) <;> simp
@[simp] theorem offerRecord_channels (s : State) (st : Stamp) (b : RecordBody) : (s.offerRecord st b).channels = s.channels := by
  unfold State.offerRecord; (try split) <;> simp
@[simp] theorem offerRecord_watches (s : State) (st : Stamp) (b : RecordBody) : (s.offerRecord st b).watches = s.watches := by
  unfold State.offerRecord; (try split) <;> simp
@[simp] theorem offerRecord_trains (s : State) (st : Stamp) (b : RecordBody) : (s.offerRecord st b).trains = s.trains := by
  unfold State.offerRecord; (try split) <;> simp
@[simp] theorem offerRecord_timers (s : State) (st : Stamp) (b : RecordBody) : (s.offerRecord st b).timers = s.timers := by
  unfold State.offerRecord; (try split) <;> simp
@[simp] theorem offerRecord_outputs (s : State) (st : Stamp) (b : RecordBody) : (s.offerRecord st b).outputs = s.outputs := by
  unfold State.offerRecord; (try split) <;> simp
@[simp] theorem offerRecord_inputs (s : State) (st : Stamp) (b : RecordBody) : (s.offerRecord st b).inputs = s.inputs := by
  unfold State.offerRecord; (try split) <;> simp
@[simp] theorem offerRecord_patches (s : State) (st : Stamp) (b : RecordBody) : (s.offerRecord st b).patches = s.patches := by
  unfold State.offerRecord; (try split) <;> simp
@[simp] theorem offerRecord_banks (s : State) (st : Stamp) (b : RecordBody) : (s.offerRecord st b).banks = s.banks := by
  unfold State.offerRecord; (try split) <;> simp
@[simp] theorem offerRecord_agent (s : State) (st : Stamp) (b : RecordBody) : (s.offerRecord st b).agent = s.agent := by
  unfold State.offerRecord; (try split) <;> simp
@[simp] theorem offerRecord_pending (s : State) (st : Stamp) (b : RecordBody) : (s.offerRecord st b).pending = s.pending := by
  unfold State.offerRecord; (try split) <;> simp
@[simp] theorem offerRecord_freeIdx (s : State) (st : Stamp) (b : RecordBody) : (s.offerRecord st b).freeIdx = s.freeIdx := by
  unfold State.offerRecord; (try split) <;> simp

@[simp] theorem raiseRaw_link (s : State) (k : Fin 6) (d : Nat) : (s.raiseRaw k d).link = s.link := by
  simp only [State.raiseRaw]; split <;> simp
@[simp] theorem raiseRaw_forward (s : State) (k : Fin 6) (d : Nat) : (s.raiseRaw k d).forward = s.forward := by
  simp only [State.raiseRaw]; split <;> simp
@[simp] theorem raiseRaw_tracker (s : State) (k : Fin 6) (d : Nat) : (s.raiseRaw k d).tracker = s.tracker := by
  simp only [State.raiseRaw]; split <;> simp
@[simp] theorem raiseRaw_now (s : State) (k : Fin 6) (d : Nat) : (s.raiseRaw k d).now = s.now := by
  simp only [State.raiseRaw]; split <;> simp
@[simp] theorem raiseRaw_intake (s : State) (k : Fin 6) (d : Nat) : (s.raiseRaw k d).intake = s.intake := by
  simp only [State.raiseRaw]; split <;> simp
@[simp] theorem raiseRaw_burst (s : State) (k : Fin 6) (d : Nat) : (s.raiseRaw k d).burst = s.burst := by
  simp only [State.raiseRaw]; split <;> simp
@[simp] theorem raiseRaw_triggers (s : State) (k : Fin 6) (d : Nat) : (s.raiseRaw k d).triggers = s.triggers := by
  simp only [State.raiseRaw]; split <;> simp
@[simp] theorem raiseRaw_channels (s : State) (k : Fin 6) (d : Nat) : (s.raiseRaw k d).channels = s.channels := by
  simp only [State.raiseRaw]; split <;> simp
@[simp] theorem raiseRaw_watches (s : State) (k : Fin 6) (d : Nat) : (s.raiseRaw k d).watches = s.watches := by
  simp only [State.raiseRaw]; split <;> simp
@[simp] theorem raiseRaw_trains (s : State) (k : Fin 6) (d : Nat) : (s.raiseRaw k d).trains = s.trains := by
  simp only [State.raiseRaw]; split <;> simp
@[simp] theorem raiseRaw_timers (s : State) (k : Fin 6) (d : Nat) : (s.raiseRaw k d).timers = s.timers := by
  simp only [State.raiseRaw]; split <;> simp
@[simp] theorem raiseRaw_outputs (s : State) (k : Fin 6) (d : Nat) : (s.raiseRaw k d).outputs = s.outputs := by
  simp only [State.raiseRaw]; split <;> simp
@[simp] theorem raiseRaw_inputs (s : State) (k : Fin 6) (d : Nat) : (s.raiseRaw k d).inputs = s.inputs := by
  simp only [State.raiseRaw]; split <;> simp
@[simp] theorem raiseRaw_patches (s : State) (k : Fin 6) (d : Nat) : (s.raiseRaw k d).patches = s.patches := by
  simp only [State.raiseRaw]; split <;> simp
@[simp] theorem raiseRaw_banks (s : State) (k : Fin 6) (d : Nat) : (s.raiseRaw k d).banks = s.banks := by
  simp only [State.raiseRaw]; split <;> simp
@[simp] theorem raiseRaw_agent (s : State) (k : Fin 6) (d : Nat) : (s.raiseRaw k d).agent = s.agent := by
  simp only [State.raiseRaw]; split <;> simp
@[simp] theorem raiseRaw_pending (s : State) (k : Fin 6) (d : Nat) : (s.raiseRaw k d).pending = s.pending := by
  simp only [State.raiseRaw]; split <;> simp
@[simp] theorem raiseRaw_freeIdx (s : State) (k : Fin 6) (d : Nat) : (s.raiseRaw k d).freeIdx = s.freeIdx := by
  simp only [State.raiseRaw]; split <;> simp

@[simp] theorem cleanup_link (s : State) : (s.cleanup).link = s.link := by
  simp only [State.cleanup]; split <;> simp
@[simp] theorem cleanup_forward (s : State) : (s.cleanup).forward = s.forward := by
  simp only [State.cleanup]; split <;> simp
@[simp] theorem cleanup_tracker (s : State) : (s.cleanup).tracker = s.tracker := by
  simp only [State.cleanup]; split <;> simp
@[simp] theorem cleanup_now (s : State) : (s.cleanup).now = s.now := by
  simp only [State.cleanup]; split <;> simp
@[simp] theorem cleanup_intake (s : State) : (s.cleanup).intake = s.intake := by
  simp only [State.cleanup]; split <;> simp
@[simp] theorem cleanup_channels (s : State) : (s.cleanup).channels = s.channels := by
  simp only [State.cleanup]; split <;> simp
@[simp] theorem cleanup_watches (s : State) : (s.cleanup).watches = s.watches := by
  simp only [State.cleanup]; split <;> simp
@[simp] theorem cleanup_inputs (s : State) : (s.cleanup).inputs = s.inputs := by
  simp only [State.cleanup]; split <;> simp
@[simp] theorem cleanup_report (s : State) : (s.cleanup).report = s.report := by
  simp only [State.cleanup]; split <;> simp
@[simp] theorem cleanup_banks (s : State) : (s.cleanup).banks = s.banks := by
  simp only [State.cleanup]; split <;> simp
@[simp] theorem cleanup_agent (s : State) : (s.cleanup).agent = s.agent := by
  simp only [State.cleanup]; split <;> simp
@[simp] theorem cleanup_engine (s : State) : (s.cleanup).engine = s.engine := by
  simp only [State.cleanup]; split <;> simp
@[simp] theorem cleanup_faults (s : State) : (s.cleanup).faults = s.faults := by
  simp only [State.cleanup]; split <;> simp
@[simp] theorem cleanup_counters (s : State) : (s.cleanup).counters = s.counters := by
  simp only [State.cleanup]; split <;> simp
@[simp] theorem cleanup_pending (s : State) : (s.cleanup).pending = s.pending := by
  simp only [State.cleanup]; split <;> simp
@[simp] theorem cleanup_freeIdx (s : State) : (s.cleanup).freeIdx = s.freeIdx := by
  simp only [State.cleanup]; split <;> simp

@[simp] theorem raiseFault_link (s : State) (k : Fin 6) (d : Nat) : (s.raiseFault k d).link = s.link := by
  simp only [State.raiseFault, settle]; split <;> simp
@[simp] theorem raiseFault_forward (s : State) (k : Fin 6) (d : Nat) : (s.raiseFault k d).forward = s.forward := by
  simp only [State.raiseFault, settle]; split <;> simp
@[simp] theorem raiseFault_tracker (s : State) (k : Fin 6) (d : Nat) : (s.raiseFault k d).tracker = s.tracker := by
  simp only [State.raiseFault, settle]; split <;> simp
@[simp] theorem raiseFault_now (s : State) (k : Fin 6) (d : Nat) : (s.raiseFault k d).now = s.now := by
  simp only [State.raiseFault, settle]; split <;> simp
@[simp] theorem raiseFault_intake (s : State) (k : Fin 6) (d : Nat) : (s.raiseFault k d).intake = s.intake := by
  simp only [State.raiseFault, settle]; split <;> simp
@[simp] theorem raiseFault_channels (s : State) (k : Fin 6) (d : Nat) : (s.raiseFault k d).channels = s.channels := by
  simp only [State.raiseFault, settle]; split <;> simp
@[simp] theorem raiseFault_watches (s : State) (k : Fin 6) (d : Nat) : (s.raiseFault k d).watches = s.watches := by
  simp only [State.raiseFault, settle]; split <;> simp
@[simp] theorem raiseFault_inputs (s : State) (k : Fin 6) (d : Nat) : (s.raiseFault k d).inputs = s.inputs := by
  simp only [State.raiseFault, settle]; split <;> simp
@[simp] theorem raiseFault_banks (s : State) (k : Fin 6) (d : Nat) : (s.raiseFault k d).banks = s.banks := by
  simp only [State.raiseFault, settle]; split <;> simp
@[simp] theorem raiseFault_agent (s : State) (k : Fin 6) (d : Nat) : (s.raiseFault k d).agent = s.agent := by
  simp only [State.raiseFault, settle]; split <;> simp
@[simp] theorem raiseFault_pending (s : State) (k : Fin 6) (d : Nat) : (s.raiseFault k d).pending = s.pending := by
  simp only [State.raiseFault, settle]; split <;> simp
@[simp] theorem raiseFault_freeIdx (s : State) (k : Fin 6) (d : Nat) : (s.raiseFault k d).freeIdx = s.freeIdx := by
  simp only [State.raiseFault, settle]; split <;> simp

@[simp] theorem stopEngine_link (s : State) : (s.stopEngine).link = s.link := by
  unfold State.stopEngine; split
  · simp only [settle]; split <;> simp
  · simp
  · rfl
@[simp] theorem stopEngine_forward (s : State) : (s.stopEngine).forward = s.forward := by
  unfold State.stopEngine; split
  · simp only [settle]; split <;> simp
  · simp
  · rfl
@[simp] theorem stopEngine_tracker (s : State) : (s.stopEngine).tracker = s.tracker := by
  unfold State.stopEngine; split
  · simp only [settle]; split <;> simp
  · simp
  · rfl
@[simp] theorem stopEngine_now (s : State) : (s.stopEngine).now = s.now := by
  unfold State.stopEngine; split
  · simp only [settle]; split <;> simp
  · simp
  · rfl
@[simp] theorem stopEngine_intake (s : State) : (s.stopEngine).intake = s.intake := by
  unfold State.stopEngine; split
  · simp only [settle]; split <;> simp
  · simp
  · rfl
@[simp] theorem stopEngine_channels (s : State) : (s.stopEngine).channels = s.channels := by
  unfold State.stopEngine; split
  · simp only [settle]; split <;> simp
  · simp
  · rfl
@[simp] theorem stopEngine_watches (s : State) : (s.stopEngine).watches = s.watches := by
  unfold State.stopEngine; split
  · simp only [settle]; split <;> simp
  · simp
  · rfl
@[simp] theorem stopEngine_inputs (s : State) : (s.stopEngine).inputs = s.inputs := by
  unfold State.stopEngine; split
  · simp only [settle]; split <;> simp
  · simp
  · rfl
@[simp] theorem stopEngine_report (s : State) : (s.stopEngine).report = s.report := by
  unfold State.stopEngine; split
  · simp only [settle]; split <;> simp
  · simp
  · rfl
@[simp] theorem stopEngine_banks (s : State) : (s.stopEngine).banks = s.banks := by
  unfold State.stopEngine; split
  · simp only [settle]; split <;> simp
  · simp
  · rfl
@[simp] theorem stopEngine_agent (s : State) : (s.stopEngine).agent = s.agent := by
  unfold State.stopEngine; split
  · simp only [settle]; split <;> simp
  · simp
  · rfl
@[simp] theorem stopEngine_faults (s : State) : (s.stopEngine).faults = s.faults := by
  unfold State.stopEngine; split
  · simp only [settle]; split <;> simp
  · simp
  · rfl
@[simp] theorem stopEngine_counters (s : State) : (s.stopEngine).counters = s.counters := by
  unfold State.stopEngine; split
  · simp only [settle]; split <;> simp
  · simp
  · rfl
@[simp] theorem stopEngine_pending (s : State) : (s.stopEngine).pending = s.pending := by
  unfold State.stopEngine; split
  · simp only [settle]; split <;> simp
  · simp
  · rfl
@[simp] theorem stopEngine_freeIdx (s : State) : (s.stopEngine).freeIdx = s.freeIdx := by
  unfold State.stopEngine; split
  · simp only [settle]; split <;> simp
  · simp
  · rfl

@[simp] theorem releaseEvent_link (s : State) (e : Event) : (s.releaseEvent e).link = s.link := by
  unfold State.releaseEvent; (try split) <;> simp
@[simp] theorem releaseEvent_tracker (s : State) (e : Event) : (s.releaseEvent e).tracker = s.tracker := by
  unfold State.releaseEvent; (try split) <;> simp
@[simp] theorem releaseEvent_now (s : State) (e : Event) : (s.releaseEvent e).now = s.now := by
  unfold State.releaseEvent; (try split) <;> simp
@[simp] theorem releaseEvent_intake (s : State) (e : Event) : (s.releaseEvent e).intake = s.intake := by
  unfold State.releaseEvent; (try split) <;> simp
@[simp] theorem releaseEvent_burst (s : State) (e : Event) : (s.releaseEvent e).burst = s.burst := by
  unfold State.releaseEvent; (try split) <;> simp
@[simp] theorem releaseEvent_triggers (s : State) (e : Event) : (s.releaseEvent e).triggers = s.triggers := by
  unfold State.releaseEvent; (try split) <;> simp
@[simp] theorem releaseEvent_channels (s : State) (e : Event) : (s.releaseEvent e).channels = s.channels := by
  unfold State.releaseEvent; (try split) <;> simp
@[simp] theorem releaseEvent_watches (s : State) (e : Event) : (s.releaseEvent e).watches = s.watches := by
  unfold State.releaseEvent; (try split) <;> simp
@[simp] theorem releaseEvent_trains (s : State) (e : Event) : (s.releaseEvent e).trains = s.trains := by
  unfold State.releaseEvent; (try split) <;> simp
@[simp] theorem releaseEvent_timers (s : State) (e : Event) : (s.releaseEvent e).timers = s.timers := by
  unfold State.releaseEvent; (try split) <;> simp
@[simp] theorem releaseEvent_outputs (s : State) (e : Event) : (s.releaseEvent e).outputs = s.outputs := by
  unfold State.releaseEvent; (try split) <;> simp
@[simp] theorem releaseEvent_inputs (s : State) (e : Event) : (s.releaseEvent e).inputs = s.inputs := by
  unfold State.releaseEvent; (try split) <;> simp
@[simp] theorem releaseEvent_patches (s : State) (e : Event) : (s.releaseEvent e).patches = s.patches := by
  unfold State.releaseEvent; (try split) <;> simp
@[simp] theorem releaseEvent_report (s : State) (e : Event) : (s.releaseEvent e).report = s.report := by
  unfold State.releaseEvent; (try split) <;> simp
@[simp] theorem releaseEvent_banks (s : State) (e : Event) : (s.releaseEvent e).banks = s.banks := by
  unfold State.releaseEvent; (try split) <;> simp
@[simp] theorem releaseEvent_agent (s : State) (e : Event) : (s.releaseEvent e).agent = s.agent := by
  unfold State.releaseEvent; (try split) <;> simp
@[simp] theorem releaseEvent_engine (s : State) (e : Event) : (s.releaseEvent e).engine = s.engine := by
  unfold State.releaseEvent; (try split) <;> simp
@[simp] theorem releaseEvent_faults (s : State) (e : Event) : (s.releaseEvent e).faults = s.faults := by
  unfold State.releaseEvent; (try split) <;> simp
@[simp] theorem releaseEvent_counters (s : State) (e : Event) : (s.releaseEvent e).counters = s.counters := by
  unfold State.releaseEvent; (try split) <;> simp
@[simp] theorem releaseEvent_pending (s : State) (e : Event) : (s.releaseEvent e).pending = s.pending := by
  unfold State.releaseEvent; (try split) <;> simp
@[simp] theorem releaseEvent_freeIdx (s : State) (e : Event) : (s.releaseEvent e).freeIdx = s.freeIdx := by
  unfold State.releaseEvent; (try split) <;> simp

@[simp] theorem dropEvent_link (s : State) (e : Event) : (s.dropEvent e).link = s.link := by
  simp [State.dropEvent]
@[simp] theorem dropEvent_tracker (s : State) (e : Event) : (s.dropEvent e).tracker = s.tracker := by
  simp [State.dropEvent]
@[simp] theorem dropEvent_now (s : State) (e : Event) : (s.dropEvent e).now = s.now := by
  simp [State.dropEvent]
@[simp] theorem dropEvent_intake (s : State) (e : Event) : (s.dropEvent e).intake = s.intake := by
  simp [State.dropEvent]
@[simp] theorem dropEvent_channels (s : State) (e : Event) : (s.dropEvent e).channels = s.channels := by
  simp [State.dropEvent]
@[simp] theorem dropEvent_watches (s : State) (e : Event) : (s.dropEvent e).watches = s.watches := by
  simp [State.dropEvent]
@[simp] theorem dropEvent_inputs (s : State) (e : Event) : (s.dropEvent e).inputs = s.inputs := by
  simp [State.dropEvent]
@[simp] theorem dropEvent_banks (s : State) (e : Event) : (s.dropEvent e).banks = s.banks := by
  simp [State.dropEvent]
@[simp] theorem dropEvent_agent (s : State) (e : Event) : (s.dropEvent e).agent = s.agent := by
  simp [State.dropEvent]
@[simp] theorem dropEvent_pending (s : State) (e : Event) : (s.dropEvent e).pending = s.pending := by
  simp [State.dropEvent]
@[simp] theorem dropEvent_freeIdx (s : State) (e : Event) : (s.dropEvent e).freeIdx = s.freeIdx := by
  simp [State.dropEvent]

@[simp] theorem appendEvent_link (s : State) (e : Event) : (s.appendEvent e).link = s.link := by
  rfl
@[simp] theorem appendEvent_forward (s : State) (e : Event) : (s.appendEvent e).forward = s.forward := by
  rfl
@[simp] theorem appendEvent_tracker (s : State) (e : Event) : (s.appendEvent e).tracker = s.tracker := by
  rfl
@[simp] theorem appendEvent_now (s : State) (e : Event) : (s.appendEvent e).now = s.now := by
  rfl
@[simp] theorem appendEvent_burst (s : State) (e : Event) : (s.appendEvent e).burst = s.burst := by
  rfl
@[simp] theorem appendEvent_triggers (s : State) (e : Event) : (s.appendEvent e).triggers = s.triggers := by
  rfl
@[simp] theorem appendEvent_channels (s : State) (e : Event) : (s.appendEvent e).channels = s.channels := by
  rfl
@[simp] theorem appendEvent_watches (s : State) (e : Event) : (s.appendEvent e).watches = s.watches := by
  rfl
@[simp] theorem appendEvent_trains (s : State) (e : Event) : (s.appendEvent e).trains = s.trains := by
  rfl
@[simp] theorem appendEvent_timers (s : State) (e : Event) : (s.appendEvent e).timers = s.timers := by
  rfl
@[simp] theorem appendEvent_outputs (s : State) (e : Event) : (s.appendEvent e).outputs = s.outputs := by
  rfl
@[simp] theorem appendEvent_inputs (s : State) (e : Event) : (s.appendEvent e).inputs = s.inputs := by
  rfl
@[simp] theorem appendEvent_patches (s : State) (e : Event) : (s.appendEvent e).patches = s.patches := by
  rfl
@[simp] theorem appendEvent_report (s : State) (e : Event) : (s.appendEvent e).report = s.report := by
  rfl
@[simp] theorem appendEvent_banks (s : State) (e : Event) : (s.appendEvent e).banks = s.banks := by
  rfl
@[simp] theorem appendEvent_agent (s : State) (e : Event) : (s.appendEvent e).agent = s.agent := by
  rfl
@[simp] theorem appendEvent_engine (s : State) (e : Event) : (s.appendEvent e).engine = s.engine := by
  rfl
@[simp] theorem appendEvent_faults (s : State) (e : Event) : (s.appendEvent e).faults = s.faults := by
  rfl
@[simp] theorem appendEvent_counters (s : State) (e : Event) : (s.appendEvent e).counters = s.counters := by
  rfl
@[simp] theorem appendEvent_pending (s : State) (e : Event) : (s.appendEvent e).pending = s.pending := by
  rfl
@[simp] theorem appendEvent_freeIdx (s : State) (e : Event) : (s.appendEvent e).freeIdx = s.freeIdx := by
  rfl

@[simp] theorem offerOrdinary_link (s : State) (e : Event) : (s.offerOrdinary e).link = s.link := by
  unfold State.offerOrdinary; (try split) <;> simp
@[simp] theorem offerOrdinary_tracker (s : State) (e : Event) : (s.offerOrdinary e).tracker = s.tracker := by
  unfold State.offerOrdinary; (try split) <;> simp
@[simp] theorem offerOrdinary_now (s : State) (e : Event) : (s.offerOrdinary e).now = s.now := by
  unfold State.offerOrdinary; (try split) <;> simp
@[simp] theorem offerOrdinary_channels (s : State) (e : Event) : (s.offerOrdinary e).channels = s.channels := by
  unfold State.offerOrdinary; (try split) <;> simp
@[simp] theorem offerOrdinary_watches (s : State) (e : Event) : (s.offerOrdinary e).watches = s.watches := by
  unfold State.offerOrdinary; (try split) <;> simp
@[simp] theorem offerOrdinary_inputs (s : State) (e : Event) : (s.offerOrdinary e).inputs = s.inputs := by
  unfold State.offerOrdinary; (try split) <;> simp
@[simp] theorem offerOrdinary_banks (s : State) (e : Event) : (s.offerOrdinary e).banks = s.banks := by
  unfold State.offerOrdinary; (try split) <;> simp
@[simp] theorem offerOrdinary_agent (s : State) (e : Event) : (s.offerOrdinary e).agent = s.agent := by
  unfold State.offerOrdinary; (try split) <;> simp
@[simp] theorem offerOrdinary_pending (s : State) (e : Event) : (s.offerOrdinary e).pending = s.pending := by
  unfold State.offerOrdinary; (try split) <;> simp
@[simp] theorem offerOrdinary_freeIdx (s : State) (e : Event) : (s.offerOrdinary e).freeIdx = s.freeIdx := by
  unfold State.offerOrdinary; (try split) <;> simp

@[simp] theorem offerCycle_link (s : State) (e : Event) : (s.offerCycle e).link = s.link := by
  unfold State.offerCycle; split; · simp
  · split <;> simp
@[simp] theorem offerCycle_tracker (s : State) (e : Event) : (s.offerCycle e).tracker = s.tracker := by
  unfold State.offerCycle; split; · simp
  · split <;> simp
@[simp] theorem offerCycle_now (s : State) (e : Event) : (s.offerCycle e).now = s.now := by
  unfold State.offerCycle; split; · simp
  · split <;> simp
@[simp] theorem offerCycle_channels (s : State) (e : Event) : (s.offerCycle e).channels = s.channels := by
  unfold State.offerCycle; split; · simp
  · split <;> simp
@[simp] theorem offerCycle_watches (s : State) (e : Event) : (s.offerCycle e).watches = s.watches := by
  unfold State.offerCycle; split; · simp
  · split <;> simp
@[simp] theorem offerCycle_inputs (s : State) (e : Event) : (s.offerCycle e).inputs = s.inputs := by
  unfold State.offerCycle; split; · simp
  · split <;> simp
@[simp] theorem offerCycle_banks (s : State) (e : Event) : (s.offerCycle e).banks = s.banks := by
  unfold State.offerCycle; split; · simp
  · split <;> simp
@[simp] theorem offerCycle_agent (s : State) (e : Event) : (s.offerCycle e).agent = s.agent := by
  unfold State.offerCycle; split; · simp
  · split <;> simp
@[simp] theorem offerCycle_pending (s : State) (e : Event) : (s.offerCycle e).pending = s.pending := by
  unfold State.offerCycle; split; · simp
  · split <;> simp
@[simp] theorem offerCycle_freeIdx (s : State) (e : Event) : (s.offerCycle e).freeIdx = s.freeIdx := by
  unfold State.offerCycle; split; · simp
  · split <;> simp

@[simp] theorem overrun_link (s : State) (f : Frame) : (s.overrun f).link = s.link := by
  simp [State.overrun]
@[simp] theorem overrun_forward (s : State) (f : Frame) : (s.overrun f).forward = s.forward := by
  simp [State.overrun]
@[simp] theorem overrun_tracker (s : State) (f : Frame) : (s.overrun f).tracker = s.tracker := by
  simp [State.overrun]
@[simp] theorem overrun_now (s : State) (f : Frame) : (s.overrun f).now = s.now := by
  simp [State.overrun]
@[simp] theorem overrun_intake (s : State) (f : Frame) : (s.overrun f).intake = s.intake := by
  simp [State.overrun]
@[simp] theorem overrun_channels (s : State) (f : Frame) : (s.overrun f).channels = s.channels := by
  simp [State.overrun]
@[simp] theorem overrun_watches (s : State) (f : Frame) : (s.overrun f).watches = s.watches := by
  simp [State.overrun]
@[simp] theorem overrun_inputs (s : State) (f : Frame) : (s.overrun f).inputs = s.inputs := by
  simp [State.overrun]
@[simp] theorem overrun_banks (s : State) (f : Frame) : (s.overrun f).banks = s.banks := by
  simp [State.overrun]
@[simp] theorem overrun_agent (s : State) (f : Frame) : (s.overrun f).agent = s.agent := by
  simp [State.overrun]
@[simp] theorem overrun_pending (s : State) (f : Frame) : (s.overrun f).pending = s.pending := by
  simp [State.overrun]

@[simp] theorem appendFrame_link (s : State) (f : Frame) (h : Bool) : (s.appendFrame f h).link = s.link := by
  rfl
@[simp] theorem appendFrame_tracker (s : State) (f : Frame) (h : Bool) : (s.appendFrame f h).tracker = s.tracker := by
  rfl
@[simp] theorem appendFrame_now (s : State) (f : Frame) (h : Bool) : (s.appendFrame f h).now = s.now := by
  rfl
@[simp] theorem appendFrame_intake (s : State) (f : Frame) (h : Bool) : (s.appendFrame f h).intake = s.intake := by
  rfl
@[simp] theorem appendFrame_burst (s : State) (f : Frame) (h : Bool) : (s.appendFrame f h).burst = s.burst := by
  rfl
@[simp] theorem appendFrame_triggers (s : State) (f : Frame) (h : Bool) : (s.appendFrame f h).triggers = s.triggers := by
  rfl
@[simp] theorem appendFrame_channels (s : State) (f : Frame) (h : Bool) : (s.appendFrame f h).channels = s.channels := by
  rfl
@[simp] theorem appendFrame_watches (s : State) (f : Frame) (h : Bool) : (s.appendFrame f h).watches = s.watches := by
  rfl
@[simp] theorem appendFrame_trains (s : State) (f : Frame) (h : Bool) : (s.appendFrame f h).trains = s.trains := by
  rfl
@[simp] theorem appendFrame_timers (s : State) (f : Frame) (h : Bool) : (s.appendFrame f h).timers = s.timers := by
  rfl
@[simp] theorem appendFrame_outputs (s : State) (f : Frame) (h : Bool) : (s.appendFrame f h).outputs = s.outputs := by
  rfl
@[simp] theorem appendFrame_inputs (s : State) (f : Frame) (h : Bool) : (s.appendFrame f h).inputs = s.inputs := by
  rfl
@[simp] theorem appendFrame_patches (s : State) (f : Frame) (h : Bool) : (s.appendFrame f h).patches = s.patches := by
  rfl
@[simp] theorem appendFrame_report (s : State) (f : Frame) (h : Bool) : (s.appendFrame f h).report = s.report := by
  rfl
@[simp] theorem appendFrame_banks (s : State) (f : Frame) (h : Bool) : (s.appendFrame f h).banks = s.banks := by
  rfl
@[simp] theorem appendFrame_agent (s : State) (f : Frame) (h : Bool) : (s.appendFrame f h).agent = s.agent := by
  rfl
@[simp] theorem appendFrame_engine (s : State) (f : Frame) (h : Bool) : (s.appendFrame f h).engine = s.engine := by
  rfl
@[simp] theorem appendFrame_faults (s : State) (f : Frame) (h : Bool) : (s.appendFrame f h).faults = s.faults := by
  rfl
@[simp] theorem appendFrame_counters (s : State) (f : Frame) (h : Bool) : (s.appendFrame f h).counters = s.counters := by
  rfl
@[simp] theorem appendFrame_pending (s : State) (f : Frame) (h : Bool) : (s.appendFrame f h).pending = s.pending := by
  rfl
@[simp] theorem appendFrame_freeIdx (s : State) (f : Frame) (h : Bool) : (s.appendFrame f h).freeIdx = s.freeIdx := by
  rfl

@[simp] theorem enter_link (s : State) (f : Frame) : (s.enter f).link = s.link := by
  unfold State.enter; (try split) <;> simp
@[simp] theorem enter_tracker (s : State) (f : Frame) : (s.enter f).tracker = s.tracker := by
  unfold State.enter; (try split) <;> simp
@[simp] theorem enter_now (s : State) (f : Frame) : (s.enter f).now = s.now := by
  unfold State.enter; (try split) <;> simp
@[simp] theorem enter_intake (s : State) (f : Frame) : (s.enter f).intake = s.intake := by
  unfold State.enter; (try split) <;> simp
@[simp] theorem enter_channels (s : State) (f : Frame) : (s.enter f).channels = s.channels := by
  unfold State.enter; (try split) <;> simp
@[simp] theorem enter_watches (s : State) (f : Frame) : (s.enter f).watches = s.watches := by
  unfold State.enter; (try split) <;> simp
@[simp] theorem enter_inputs (s : State) (f : Frame) : (s.enter f).inputs = s.inputs := by
  unfold State.enter; (try split) <;> simp
@[simp] theorem enter_banks (s : State) (f : Frame) : (s.enter f).banks = s.banks := by
  unfold State.enter; (try split) <;> simp
@[simp] theorem enter_agent (s : State) (f : Frame) : (s.enter f).agent = s.agent := by
  unfold State.enter; (try split) <;> simp
@[simp] theorem enter_pending (s : State) (f : Frame) : (s.enter f).pending = s.pending := by
  unfold State.enter; (try split) <;> simp

@[simp] theorem countMerged_link (s : State) (t : Fin 48) (n : Nat) : (s.countMerged t n).link = s.link := by
  rfl
@[simp] theorem countMerged_forward (s : State) (t : Fin 48) (n : Nat) : (s.countMerged t n).forward = s.forward := by
  rfl
@[simp] theorem countMerged_tracker (s : State) (t : Fin 48) (n : Nat) : (s.countMerged t n).tracker = s.tracker := by
  rfl
@[simp] theorem countMerged_now (s : State) (t : Fin 48) (n : Nat) : (s.countMerged t n).now = s.now := by
  rfl
@[simp] theorem countMerged_intake (s : State) (t : Fin 48) (n : Nat) : (s.countMerged t n).intake = s.intake := by
  rfl
@[simp] theorem countMerged_burst (s : State) (t : Fin 48) (n : Nat) : (s.countMerged t n).burst = s.burst := by
  rfl
@[simp] theorem countMerged_channels (s : State) (t : Fin 48) (n : Nat) : (s.countMerged t n).channels = s.channels := by
  rfl
@[simp] theorem countMerged_watches (s : State) (t : Fin 48) (n : Nat) : (s.countMerged t n).watches = s.watches := by
  rfl
@[simp] theorem countMerged_trains (s : State) (t : Fin 48) (n : Nat) : (s.countMerged t n).trains = s.trains := by
  rfl
@[simp] theorem countMerged_timers (s : State) (t : Fin 48) (n : Nat) : (s.countMerged t n).timers = s.timers := by
  rfl
@[simp] theorem countMerged_outputs (s : State) (t : Fin 48) (n : Nat) : (s.countMerged t n).outputs = s.outputs := by
  rfl
@[simp] theorem countMerged_inputs (s : State) (t : Fin 48) (n : Nat) : (s.countMerged t n).inputs = s.inputs := by
  rfl
@[simp] theorem countMerged_patches (s : State) (t : Fin 48) (n : Nat) : (s.countMerged t n).patches = s.patches := by
  rfl
@[simp] theorem countMerged_report (s : State) (t : Fin 48) (n : Nat) : (s.countMerged t n).report = s.report := by
  rfl
@[simp] theorem countMerged_banks (s : State) (t : Fin 48) (n : Nat) : (s.countMerged t n).banks = s.banks := by
  rfl
@[simp] theorem countMerged_agent (s : State) (t : Fin 48) (n : Nat) : (s.countMerged t n).agent = s.agent := by
  rfl
@[simp] theorem countMerged_engine (s : State) (t : Fin 48) (n : Nat) : (s.countMerged t n).engine = s.engine := by
  rfl
@[simp] theorem countMerged_faults (s : State) (t : Fin 48) (n : Nat) : (s.countMerged t n).faults = s.faults := by
  rfl
@[simp] theorem countMerged_pending (s : State) (t : Fin 48) (n : Nat) : (s.countMerged t n).pending = s.pending := by
  rfl
@[simp] theorem countMerged_freeIdx (s : State) (t : Fin 48) (n : Nat) : (s.countMerged t n).freeIdx = s.freeIdx := by
  rfl

@[simp] theorem addEntries_link (s : State) (e : Entry) (n : Nat) : (s.addEntries e n).link = s.link := by
  unfold State.addEntries; split; · rfl
  · simp only []; split <;> simp
@[simp] theorem addEntries_forward (s : State) (e : Entry) (n : Nat) : (s.addEntries e n).forward = s.forward := by
  unfold State.addEntries; split; · rfl
  · simp only []; split <;> simp
@[simp] theorem addEntries_tracker (s : State) (e : Entry) (n : Nat) : (s.addEntries e n).tracker = s.tracker := by
  unfold State.addEntries; split; · rfl
  · simp only []; split <;> simp
@[simp] theorem addEntries_now (s : State) (e : Entry) (n : Nat) : (s.addEntries e n).now = s.now := by
  unfold State.addEntries; split; · rfl
  · simp only []; split <;> simp
@[simp] theorem addEntries_intake (s : State) (e : Entry) (n : Nat) : (s.addEntries e n).intake = s.intake := by
  unfold State.addEntries; split; · rfl
  · simp only []; split <;> simp
@[simp] theorem addEntries_channels (s : State) (e : Entry) (n : Nat) : (s.addEntries e n).channels = s.channels := by
  unfold State.addEntries; split; · rfl
  · simp only []; split <;> simp
@[simp] theorem addEntries_watches (s : State) (e : Entry) (n : Nat) : (s.addEntries e n).watches = s.watches := by
  unfold State.addEntries; split; · rfl
  · simp only []; split <;> simp
@[simp] theorem addEntries_trains (s : State) (e : Entry) (n : Nat) : (s.addEntries e n).trains = s.trains := by
  unfold State.addEntries; split; · rfl
  · simp only []; split <;> simp
@[simp] theorem addEntries_timers (s : State) (e : Entry) (n : Nat) : (s.addEntries e n).timers = s.timers := by
  unfold State.addEntries; split; · rfl
  · simp only []; split <;> simp
@[simp] theorem addEntries_outputs (s : State) (e : Entry) (n : Nat) : (s.addEntries e n).outputs = s.outputs := by
  unfold State.addEntries; split; · rfl
  · simp only []; split <;> simp
@[simp] theorem addEntries_inputs (s : State) (e : Entry) (n : Nat) : (s.addEntries e n).inputs = s.inputs := by
  unfold State.addEntries; split; · rfl
  · simp only []; split <;> simp
@[simp] theorem addEntries_patches (s : State) (e : Entry) (n : Nat) : (s.addEntries e n).patches = s.patches := by
  unfold State.addEntries; split; · rfl
  · simp only []; split <;> simp
@[simp] theorem addEntries_report (s : State) (e : Entry) (n : Nat) : (s.addEntries e n).report = s.report := by
  unfold State.addEntries; split; · rfl
  · simp only []; split <;> simp
@[simp] theorem addEntries_banks (s : State) (e : Entry) (n : Nat) : (s.addEntries e n).banks = s.banks := by
  unfold State.addEntries; split; · rfl
  · simp only []; split <;> simp
@[simp] theorem addEntries_agent (s : State) (e : Entry) (n : Nat) : (s.addEntries e n).agent = s.agent := by
  unfold State.addEntries; split; · rfl
  · simp only []; split <;> simp
@[simp] theorem addEntries_engine (s : State) (e : Entry) (n : Nat) : (s.addEntries e n).engine = s.engine := by
  unfold State.addEntries; split; · rfl
  · simp only []; split <;> simp
@[simp] theorem addEntries_faults (s : State) (e : Entry) (n : Nat) : (s.addEntries e n).faults = s.faults := by
  unfold State.addEntries; split; · rfl
  · simp only []; split <;> simp
@[simp] theorem addEntries_pending (s : State) (e : Entry) (n : Nat) : (s.addEntries e n).pending = s.pending := by
  unfold State.addEntries; split; · rfl
  · simp only []; split <;> simp
@[simp] theorem addEntries_freeIdx (s : State) (e : Entry) (n : Nat) : (s.addEntries e n).freeIdx = s.freeIdx := by
  unfold State.addEntries; split; · rfl
  · simp only []; split <;> simp

@[simp] theorem addMatches_link (s : State) (l : Products) (t : Fin 48) : (s.addMatches l t).link = s.link := by
  unfold State.addMatches; exact overList_keep (fun s : State => s.link) _ (fun s a => by split <;> simp) _ _
@[simp] theorem addMatches_forward (s : State) (l : Products) (t : Fin 48) : (s.addMatches l t).forward = s.forward := by
  unfold State.addMatches; exact overList_keep (fun s : State => s.forward) _ (fun s a => by split <;> simp) _ _
@[simp] theorem addMatches_tracker (s : State) (l : Products) (t : Fin 48) : (s.addMatches l t).tracker = s.tracker := by
  unfold State.addMatches; exact overList_keep (fun s : State => s.tracker) _ (fun s a => by split <;> simp) _ _
@[simp] theorem addMatches_now (s : State) (l : Products) (t : Fin 48) : (s.addMatches l t).now = s.now := by
  unfold State.addMatches; exact overList_keep (fun s : State => s.now) _ (fun s a => by split <;> simp) _ _
@[simp] theorem addMatches_intake (s : State) (l : Products) (t : Fin 48) : (s.addMatches l t).intake = s.intake := by
  unfold State.addMatches; exact overList_keep (fun s : State => s.intake) _ (fun s a => by split <;> simp) _ _
@[simp] theorem addMatches_channels (s : State) (l : Products) (t : Fin 48) : (s.addMatches l t).channels = s.channels := by
  unfold State.addMatches; exact overList_keep (fun s : State => s.channels) _ (fun s a => by split <;> simp) _ _
@[simp] theorem addMatches_watches (s : State) (l : Products) (t : Fin 48) : (s.addMatches l t).watches = s.watches := by
  unfold State.addMatches; exact overList_keep (fun s : State => s.watches) _ (fun s a => by split <;> simp) _ _
@[simp] theorem addMatches_trains (s : State) (l : Products) (t : Fin 48) : (s.addMatches l t).trains = s.trains := by
  unfold State.addMatches; exact overList_keep (fun s : State => s.trains) _ (fun s a => by split <;> simp) _ _
@[simp] theorem addMatches_timers (s : State) (l : Products) (t : Fin 48) : (s.addMatches l t).timers = s.timers := by
  unfold State.addMatches; exact overList_keep (fun s : State => s.timers) _ (fun s a => by split <;> simp) _ _
@[simp] theorem addMatches_outputs (s : State) (l : Products) (t : Fin 48) : (s.addMatches l t).outputs = s.outputs := by
  unfold State.addMatches; exact overList_keep (fun s : State => s.outputs) _ (fun s a => by split <;> simp) _ _
@[simp] theorem addMatches_inputs (s : State) (l : Products) (t : Fin 48) : (s.addMatches l t).inputs = s.inputs := by
  unfold State.addMatches; exact overList_keep (fun s : State => s.inputs) _ (fun s a => by split <;> simp) _ _
@[simp] theorem addMatches_patches (s : State) (l : Products) (t : Fin 48) : (s.addMatches l t).patches = s.patches := by
  unfold State.addMatches; exact overList_keep (fun s : State => s.patches) _ (fun s a => by split <;> simp) _ _
@[simp] theorem addMatches_report (s : State) (l : Products) (t : Fin 48) : (s.addMatches l t).report = s.report := by
  unfold State.addMatches; exact overList_keep (fun s : State => s.report) _ (fun s a => by split <;> simp) _ _
@[simp] theorem addMatches_banks (s : State) (l : Products) (t : Fin 48) : (s.addMatches l t).banks = s.banks := by
  unfold State.addMatches; exact overList_keep (fun s : State => s.banks) _ (fun s a => by split <;> simp) _ _
@[simp] theorem addMatches_agent (s : State) (l : Products) (t : Fin 48) : (s.addMatches l t).agent = s.agent := by
  unfold State.addMatches; exact overList_keep (fun s : State => s.agent) _ (fun s a => by split <;> simp) _ _
@[simp] theorem addMatches_engine (s : State) (l : Products) (t : Fin 48) : (s.addMatches l t).engine = s.engine := by
  unfold State.addMatches; exact overList_keep (fun s : State => s.engine) _ (fun s a => by split <;> simp) _ _
@[simp] theorem addMatches_faults (s : State) (l : Products) (t : Fin 48) : (s.addMatches l t).faults = s.faults := by
  unfold State.addMatches; exact overList_keep (fun s : State => s.faults) _ (fun s a => by split <;> simp) _ _
@[simp] theorem addMatches_pending (s : State) (l : Products) (t : Fin 48) : (s.addMatches l t).pending = s.pending := by
  unfold State.addMatches; exact overList_keep (fun s : State => s.pending) _ (fun s a => by split <;> simp) _ _
@[simp] theorem addMatches_freeIdx (s : State) (l : Products) (t : Fin 48) : (s.addMatches l t).freeIdx = s.freeIdx := by
  unfold State.addMatches; exact overList_keep (fun s : State => s.freeIdx) _ (fun s a => by split <;> simp) _ _

@[simp] theorem addProducts_link (s : State) (l : Products) : (s.addProducts l).link = s.link := by
  unfold State.addProducts; exact overList_keep (fun s : State => s.link) _ (fun s a => by simp) _ _
@[simp] theorem addProducts_forward (s : State) (l : Products) : (s.addProducts l).forward = s.forward := by
  unfold State.addProducts; exact overList_keep (fun s : State => s.forward) _ (fun s a => by simp) _ _
@[simp] theorem addProducts_tracker (s : State) (l : Products) : (s.addProducts l).tracker = s.tracker := by
  unfold State.addProducts; exact overList_keep (fun s : State => s.tracker) _ (fun s a => by simp) _ _
@[simp] theorem addProducts_now (s : State) (l : Products) : (s.addProducts l).now = s.now := by
  unfold State.addProducts; exact overList_keep (fun s : State => s.now) _ (fun s a => by simp) _ _
@[simp] theorem addProducts_intake (s : State) (l : Products) : (s.addProducts l).intake = s.intake := by
  unfold State.addProducts; exact overList_keep (fun s : State => s.intake) _ (fun s a => by simp) _ _
@[simp] theorem addProducts_channels (s : State) (l : Products) : (s.addProducts l).channels = s.channels := by
  unfold State.addProducts; exact overList_keep (fun s : State => s.channels) _ (fun s a => by simp) _ _
@[simp] theorem addProducts_watches (s : State) (l : Products) : (s.addProducts l).watches = s.watches := by
  unfold State.addProducts; exact overList_keep (fun s : State => s.watches) _ (fun s a => by simp) _ _
@[simp] theorem addProducts_trains (s : State) (l : Products) : (s.addProducts l).trains = s.trains := by
  unfold State.addProducts; exact overList_keep (fun s : State => s.trains) _ (fun s a => by simp) _ _
@[simp] theorem addProducts_timers (s : State) (l : Products) : (s.addProducts l).timers = s.timers := by
  unfold State.addProducts; exact overList_keep (fun s : State => s.timers) _ (fun s a => by simp) _ _
@[simp] theorem addProducts_outputs (s : State) (l : Products) : (s.addProducts l).outputs = s.outputs := by
  unfold State.addProducts; exact overList_keep (fun s : State => s.outputs) _ (fun s a => by simp) _ _
@[simp] theorem addProducts_inputs (s : State) (l : Products) : (s.addProducts l).inputs = s.inputs := by
  unfold State.addProducts; exact overList_keep (fun s : State => s.inputs) _ (fun s a => by simp) _ _
@[simp] theorem addProducts_patches (s : State) (l : Products) : (s.addProducts l).patches = s.patches := by
  unfold State.addProducts; exact overList_keep (fun s : State => s.patches) _ (fun s a => by simp) _ _
@[simp] theorem addProducts_report (s : State) (l : Products) : (s.addProducts l).report = s.report := by
  unfold State.addProducts; exact overList_keep (fun s : State => s.report) _ (fun s a => by simp) _ _
@[simp] theorem addProducts_banks (s : State) (l : Products) : (s.addProducts l).banks = s.banks := by
  unfold State.addProducts; exact overList_keep (fun s : State => s.banks) _ (fun s a => by simp) _ _
@[simp] theorem addProducts_agent (s : State) (l : Products) : (s.addProducts l).agent = s.agent := by
  unfold State.addProducts; exact overList_keep (fun s : State => s.agent) _ (fun s a => by simp) _ _
@[simp] theorem addProducts_engine (s : State) (l : Products) : (s.addProducts l).engine = s.engine := by
  unfold State.addProducts; exact overList_keep (fun s : State => s.engine) _ (fun s a => by simp) _ _
@[simp] theorem addProducts_faults (s : State) (l : Products) : (s.addProducts l).faults = s.faults := by
  unfold State.addProducts; exact overList_keep (fun s : State => s.faults) _ (fun s a => by simp) _ _
@[simp] theorem addProducts_pending (s : State) (l : Products) : (s.addProducts l).pending = s.pending := by
  unfold State.addProducts; exact overList_keep (fun s : State => s.pending) _ (fun s a => by simp) _ _
@[simp] theorem addProducts_freeIdx (s : State) (l : Products) : (s.addProducts l).freeIdx = s.freeIdx := by
  unfold State.addProducts; exact overList_keep (fun s : State => s.freeIdx) _ (fun s a => by simp) _ _

@[simp] theorem derive_link (s : State) (x : Thing) : (s.derive x).link = s.link := by
  simp [State.derive]
@[simp] theorem derive_forward (s : State) (x : Thing) : (s.derive x).forward = s.forward := by
  simp [State.derive]
@[simp] theorem derive_tracker (s : State) (x : Thing) : (s.derive x).tracker = s.tracker := by
  simp [State.derive]
@[simp] theorem derive_now (s : State) (x : Thing) : (s.derive x).now = s.now := by
  simp [State.derive]
@[simp] theorem derive_intake (s : State) (x : Thing) : (s.derive x).intake = s.intake := by
  simp [State.derive]
@[simp] theorem derive_channels (s : State) (x : Thing) : (s.derive x).channels = s.channels := by
  simp [State.derive]
@[simp] theorem derive_watches (s : State) (x : Thing) : (s.derive x).watches = s.watches := by
  simp [State.derive]
@[simp] theorem derive_trains (s : State) (x : Thing) : (s.derive x).trains = s.trains := by
  simp [State.derive]
@[simp] theorem derive_timers (s : State) (x : Thing) : (s.derive x).timers = s.timers := by
  simp [State.derive]
@[simp] theorem derive_outputs (s : State) (x : Thing) : (s.derive x).outputs = s.outputs := by
  simp [State.derive]
@[simp] theorem derive_inputs (s : State) (x : Thing) : (s.derive x).inputs = s.inputs := by
  simp [State.derive]
@[simp] theorem derive_patches (s : State) (x : Thing) : (s.derive x).patches = s.patches := by
  simp [State.derive]
@[simp] theorem derive_report (s : State) (x : Thing) : (s.derive x).report = s.report := by
  simp [State.derive]
@[simp] theorem derive_banks (s : State) (x : Thing) : (s.derive x).banks = s.banks := by
  simp [State.derive]
@[simp] theorem derive_agent (s : State) (x : Thing) : (s.derive x).agent = s.agent := by
  simp [State.derive]
@[simp] theorem derive_engine (s : State) (x : Thing) : (s.derive x).engine = s.engine := by
  simp [State.derive]
@[simp] theorem derive_faults (s : State) (x : Thing) : (s.derive x).faults = s.faults := by
  simp [State.derive]
@[simp] theorem derive_pending (s : State) (x : Thing) : (s.derive x).pending = s.pending := by
  simp [State.derive]
@[simp] theorem derive_freeIdx (s : State) (x : Thing) : (s.derive x).freeIdx = s.freeIdx := by
  simp [State.derive]

@[simp] theorem addNamed_link (s : State) (m : BitVec 48) : (s.addNamed m).link = s.link := by
  unfold State.addNamed; exact overList_keep (fun s : State => s.link) _ (fun s a => by split <;> simp) _ _
@[simp] theorem addNamed_forward (s : State) (m : BitVec 48) : (s.addNamed m).forward = s.forward := by
  unfold State.addNamed; exact overList_keep (fun s : State => s.forward) _ (fun s a => by split <;> simp) _ _
@[simp] theorem addNamed_tracker (s : State) (m : BitVec 48) : (s.addNamed m).tracker = s.tracker := by
  unfold State.addNamed; exact overList_keep (fun s : State => s.tracker) _ (fun s a => by split <;> simp) _ _
@[simp] theorem addNamed_now (s : State) (m : BitVec 48) : (s.addNamed m).now = s.now := by
  unfold State.addNamed; exact overList_keep (fun s : State => s.now) _ (fun s a => by split <;> simp) _ _
@[simp] theorem addNamed_intake (s : State) (m : BitVec 48) : (s.addNamed m).intake = s.intake := by
  unfold State.addNamed; exact overList_keep (fun s : State => s.intake) _ (fun s a => by split <;> simp) _ _
@[simp] theorem addNamed_channels (s : State) (m : BitVec 48) : (s.addNamed m).channels = s.channels := by
  unfold State.addNamed; exact overList_keep (fun s : State => s.channels) _ (fun s a => by split <;> simp) _ _
@[simp] theorem addNamed_watches (s : State) (m : BitVec 48) : (s.addNamed m).watches = s.watches := by
  unfold State.addNamed; exact overList_keep (fun s : State => s.watches) _ (fun s a => by split <;> simp) _ _
@[simp] theorem addNamed_trains (s : State) (m : BitVec 48) : (s.addNamed m).trains = s.trains := by
  unfold State.addNamed; exact overList_keep (fun s : State => s.trains) _ (fun s a => by split <;> simp) _ _
@[simp] theorem addNamed_timers (s : State) (m : BitVec 48) : (s.addNamed m).timers = s.timers := by
  unfold State.addNamed; exact overList_keep (fun s : State => s.timers) _ (fun s a => by split <;> simp) _ _
@[simp] theorem addNamed_outputs (s : State) (m : BitVec 48) : (s.addNamed m).outputs = s.outputs := by
  unfold State.addNamed; exact overList_keep (fun s : State => s.outputs) _ (fun s a => by split <;> simp) _ _
@[simp] theorem addNamed_inputs (s : State) (m : BitVec 48) : (s.addNamed m).inputs = s.inputs := by
  unfold State.addNamed; exact overList_keep (fun s : State => s.inputs) _ (fun s a => by split <;> simp) _ _
@[simp] theorem addNamed_patches (s : State) (m : BitVec 48) : (s.addNamed m).patches = s.patches := by
  unfold State.addNamed; exact overList_keep (fun s : State => s.patches) _ (fun s a => by split <;> simp) _ _
@[simp] theorem addNamed_report (s : State) (m : BitVec 48) : (s.addNamed m).report = s.report := by
  unfold State.addNamed; exact overList_keep (fun s : State => s.report) _ (fun s a => by split <;> simp) _ _
@[simp] theorem addNamed_banks (s : State) (m : BitVec 48) : (s.addNamed m).banks = s.banks := by
  unfold State.addNamed; exact overList_keep (fun s : State => s.banks) _ (fun s a => by split <;> simp) _ _
@[simp] theorem addNamed_agent (s : State) (m : BitVec 48) : (s.addNamed m).agent = s.agent := by
  unfold State.addNamed; exact overList_keep (fun s : State => s.agent) _ (fun s a => by split <;> simp) _ _
@[simp] theorem addNamed_engine (s : State) (m : BitVec 48) : (s.addNamed m).engine = s.engine := by
  unfold State.addNamed; exact overList_keep (fun s : State => s.engine) _ (fun s a => by split <;> simp) _ _
@[simp] theorem addNamed_faults (s : State) (m : BitVec 48) : (s.addNamed m).faults = s.faults := by
  unfold State.addNamed; exact overList_keep (fun s : State => s.faults) _ (fun s a => by split <;> simp) _ _
@[simp] theorem addNamed_pending (s : State) (m : BitVec 48) : (s.addNamed m).pending = s.pending := by
  unfold State.addNamed; exact overList_keep (fun s : State => s.pending) _ (fun s a => by split <;> simp) _ _
@[simp] theorem addNamed_freeIdx (s : State) (m : BitVec 48) : (s.addNamed m).freeIdx = s.freeIdx := by
  unfold State.addNamed; exact overList_keep (fun s : State => s.freeIdx) _ (fun s a => by split <;> simp) _ _

@[simp] theorem answer_link (s : State) (q : Request) (st : Byte) (b : List Byte) : (s.answer q st b).link = s.link := by
  rfl
@[simp] theorem answer_forward (s : State) (q : Request) (st : Byte) (b : List Byte) : (s.answer q st b).forward = s.forward := by
  rfl
@[simp] theorem answer_tracker (s : State) (q : Request) (st : Byte) (b : List Byte) : (s.answer q st b).tracker = s.tracker := by
  rfl
@[simp] theorem answer_now (s : State) (q : Request) (st : Byte) (b : List Byte) : (s.answer q st b).now = s.now := by
  rfl
@[simp] theorem answer_intake (s : State) (q : Request) (st : Byte) (b : List Byte) : (s.answer q st b).intake = s.intake := by
  rfl
@[simp] theorem answer_burst (s : State) (q : Request) (st : Byte) (b : List Byte) : (s.answer q st b).burst = s.burst := by
  rfl
@[simp] theorem answer_triggers (s : State) (q : Request) (st : Byte) (b : List Byte) : (s.answer q st b).triggers = s.triggers := by
  rfl
@[simp] theorem answer_channels (s : State) (q : Request) (st : Byte) (b : List Byte) : (s.answer q st b).channels = s.channels := by
  rfl
@[simp] theorem answer_watches (s : State) (q : Request) (st : Byte) (b : List Byte) : (s.answer q st b).watches = s.watches := by
  rfl
@[simp] theorem answer_trains (s : State) (q : Request) (st : Byte) (b : List Byte) : (s.answer q st b).trains = s.trains := by
  rfl
@[simp] theorem answer_timers (s : State) (q : Request) (st : Byte) (b : List Byte) : (s.answer q st b).timers = s.timers := by
  rfl
@[simp] theorem answer_outputs (s : State) (q : Request) (st : Byte) (b : List Byte) : (s.answer q st b).outputs = s.outputs := by
  rfl
@[simp] theorem answer_inputs (s : State) (q : Request) (st : Byte) (b : List Byte) : (s.answer q st b).inputs = s.inputs := by
  rfl
@[simp] theorem answer_patches (s : State) (q : Request) (st : Byte) (b : List Byte) : (s.answer q st b).patches = s.patches := by
  rfl
@[simp] theorem answer_report (s : State) (q : Request) (st : Byte) (b : List Byte) : (s.answer q st b).report = s.report := by
  rfl
@[simp] theorem answer_banks (s : State) (q : Request) (st : Byte) (b : List Byte) : (s.answer q st b).banks = s.banks := by
  rfl
@[simp] theorem answer_engine (s : State) (q : Request) (st : Byte) (b : List Byte) : (s.answer q st b).engine = s.engine := by
  rfl
@[simp] theorem answer_faults (s : State) (q : Request) (st : Byte) (b : List Byte) : (s.answer q st b).faults = s.faults := by
  rfl
@[simp] theorem answer_counters (s : State) (q : Request) (st : Byte) (b : List Byte) : (s.answer q st b).counters = s.counters := by
  rfl
@[simp] theorem answer_pending (s : State) (q : Request) (st : Byte) (b : List Byte) : (s.answer q st b).pending = s.pending := by
  rfl
@[simp] theorem answer_freeIdx (s : State) (q : Request) (st : Byte) (b : List Byte) : (s.answer q st b).freeIdx = s.freeIdx := by
  rfl

@[simp] theorem answerHeaderFault_link (s : State) (q : Request) : (s.answerHeaderFault q).link = s.link := by
  rfl
@[simp] theorem answerHeaderFault_forward (s : State) (q : Request) : (s.answerHeaderFault q).forward = s.forward := by
  rfl
@[simp] theorem answerHeaderFault_tracker (s : State) (q : Request) : (s.answerHeaderFault q).tracker = s.tracker := by
  rfl
@[simp] theorem answerHeaderFault_now (s : State) (q : Request) : (s.answerHeaderFault q).now = s.now := by
  rfl
@[simp] theorem answerHeaderFault_intake (s : State) (q : Request) : (s.answerHeaderFault q).intake = s.intake := by
  rfl
@[simp] theorem answerHeaderFault_burst (s : State) (q : Request) : (s.answerHeaderFault q).burst = s.burst := by
  rfl
@[simp] theorem answerHeaderFault_triggers (s : State) (q : Request) : (s.answerHeaderFault q).triggers = s.triggers := by
  rfl
@[simp] theorem answerHeaderFault_channels (s : State) (q : Request) : (s.answerHeaderFault q).channels = s.channels := by
  rfl
@[simp] theorem answerHeaderFault_watches (s : State) (q : Request) : (s.answerHeaderFault q).watches = s.watches := by
  rfl
@[simp] theorem answerHeaderFault_trains (s : State) (q : Request) : (s.answerHeaderFault q).trains = s.trains := by
  rfl
@[simp] theorem answerHeaderFault_timers (s : State) (q : Request) : (s.answerHeaderFault q).timers = s.timers := by
  rfl
@[simp] theorem answerHeaderFault_outputs (s : State) (q : Request) : (s.answerHeaderFault q).outputs = s.outputs := by
  rfl
@[simp] theorem answerHeaderFault_inputs (s : State) (q : Request) : (s.answerHeaderFault q).inputs = s.inputs := by
  rfl
@[simp] theorem answerHeaderFault_patches (s : State) (q : Request) : (s.answerHeaderFault q).patches = s.patches := by
  rfl
@[simp] theorem answerHeaderFault_report (s : State) (q : Request) : (s.answerHeaderFault q).report = s.report := by
  rfl
@[simp] theorem answerHeaderFault_banks (s : State) (q : Request) : (s.answerHeaderFault q).banks = s.banks := by
  rfl
@[simp] theorem answerHeaderFault_engine (s : State) (q : Request) : (s.answerHeaderFault q).engine = s.engine := by
  rfl
@[simp] theorem answerHeaderFault_faults (s : State) (q : Request) : (s.answerHeaderFault q).faults = s.faults := by
  rfl
@[simp] theorem answerHeaderFault_counters (s : State) (q : Request) : (s.answerHeaderFault q).counters = s.counters := by
  rfl
@[simp] theorem answerHeaderFault_pending (s : State) (q : Request) : (s.answerHeaderFault q).pending = s.pending := by
  rfl

@[simp] theorem waitFor_link (s : State) (q : Request) : (s.waitFor q).link = s.link := by
  rfl
@[simp] theorem waitFor_forward (s : State) (q : Request) : (s.waitFor q).forward = s.forward := by
  rfl
@[simp] theorem waitFor_tracker (s : State) (q : Request) : (s.waitFor q).tracker = s.tracker := by
  rfl
@[simp] theorem waitFor_now (s : State) (q : Request) : (s.waitFor q).now = s.now := by
  rfl
@[simp] theorem waitFor_intake (s : State) (q : Request) : (s.waitFor q).intake = s.intake := by
  rfl
@[simp] theorem waitFor_burst (s : State) (q : Request) : (s.waitFor q).burst = s.burst := by
  rfl
@[simp] theorem waitFor_triggers (s : State) (q : Request) : (s.waitFor q).triggers = s.triggers := by
  rfl
@[simp] theorem waitFor_channels (s : State) (q : Request) : (s.waitFor q).channels = s.channels := by
  rfl
@[simp] theorem waitFor_watches (s : State) (q : Request) : (s.waitFor q).watches = s.watches := by
  rfl
@[simp] theorem waitFor_trains (s : State) (q : Request) : (s.waitFor q).trains = s.trains := by
  rfl
@[simp] theorem waitFor_timers (s : State) (q : Request) : (s.waitFor q).timers = s.timers := by
  rfl
@[simp] theorem waitFor_outputs (s : State) (q : Request) : (s.waitFor q).outputs = s.outputs := by
  rfl
@[simp] theorem waitFor_inputs (s : State) (q : Request) : (s.waitFor q).inputs = s.inputs := by
  rfl
@[simp] theorem waitFor_patches (s : State) (q : Request) : (s.waitFor q).patches = s.patches := by
  rfl
@[simp] theorem waitFor_report (s : State) (q : Request) : (s.waitFor q).report = s.report := by
  rfl
@[simp] theorem waitFor_banks (s : State) (q : Request) : (s.waitFor q).banks = s.banks := by
  rfl
@[simp] theorem waitFor_engine (s : State) (q : Request) : (s.waitFor q).engine = s.engine := by
  rfl
@[simp] theorem waitFor_faults (s : State) (q : Request) : (s.waitFor q).faults = s.faults := by
  rfl
@[simp] theorem waitFor_counters (s : State) (q : Request) : (s.waitFor q).counters = s.counters := by
  rfl
@[simp] theorem waitFor_pending (s : State) (q : Request) : (s.waitFor q).pending = s.pending := by
  rfl
@[simp] theorem waitFor_freeIdx (s : State) (q : Request) : (s.waitFor q).freeIdx = s.freeIdx := by
  rfl

@[simp] theorem unhold_link (s : State) : (s.unhold).link = s.link := by
  rfl
@[simp] theorem unhold_forward (s : State) : (s.unhold).forward = s.forward := by
  rfl
@[simp] theorem unhold_tracker (s : State) : (s.unhold).tracker = s.tracker := by
  rfl
@[simp] theorem unhold_now (s : State) : (s.unhold).now = s.now := by
  rfl
@[simp] theorem unhold_intake (s : State) : (s.unhold).intake = s.intake := by
  rfl
@[simp] theorem unhold_burst (s : State) : (s.unhold).burst = s.burst := by
  rfl
@[simp] theorem unhold_triggers (s : State) : (s.unhold).triggers = s.triggers := by
  rfl
@[simp] theorem unhold_channels (s : State) : (s.unhold).channels = s.channels := by
  rfl
@[simp] theorem unhold_watches (s : State) : (s.unhold).watches = s.watches := by
  rfl
@[simp] theorem unhold_trains (s : State) : (s.unhold).trains = s.trains := by
  rfl
@[simp] theorem unhold_timers (s : State) : (s.unhold).timers = s.timers := by
  rfl
@[simp] theorem unhold_outputs (s : State) : (s.unhold).outputs = s.outputs := by
  rfl
@[simp] theorem unhold_inputs (s : State) : (s.unhold).inputs = s.inputs := by
  rfl
@[simp] theorem unhold_patches (s : State) : (s.unhold).patches = s.patches := by
  rfl
@[simp] theorem unhold_report (s : State) : (s.unhold).report = s.report := by
  rfl
@[simp] theorem unhold_banks (s : State) : (s.unhold).banks = s.banks := by
  rfl
@[simp] theorem unhold_engine (s : State) : (s.unhold).engine = s.engine := by
  rfl
@[simp] theorem unhold_faults (s : State) : (s.unhold).faults = s.faults := by
  rfl
@[simp] theorem unhold_counters (s : State) : (s.unhold).counters = s.counters := by
  rfl
@[simp] theorem unhold_pending (s : State) : (s.unhold).pending = s.pending := by
  rfl
@[simp] theorem unhold_freeIdx (s : State) : (s.unhold).freeIdx = s.freeIdx := by
  rfl

@[simp] theorem acceptInput_link (s : State) (k : Fin 4) : (s.acceptInput k).link = s.link := by
  unfold State.acceptInput; simp only []; split <;> simp
@[simp] theorem acceptInput_tracker (s : State) (k : Fin 4) : (s.acceptInput k).tracker = s.tracker := by
  unfold State.acceptInput; simp only []; split <;> simp
@[simp] theorem acceptInput_now (s : State) (k : Fin 4) : (s.acceptInput k).now = s.now := by
  unfold State.acceptInput; simp only []; split <;> simp
@[simp] theorem acceptInput_channels (s : State) (k : Fin 4) : (s.acceptInput k).channels = s.channels := by
  unfold State.acceptInput; simp only []; split <;> simp
@[simp] theorem acceptInput_watches (s : State) (k : Fin 4) : (s.acceptInput k).watches = s.watches := by
  unfold State.acceptInput; simp only []; split <;> simp
@[simp] theorem acceptInput_banks (s : State) (k : Fin 4) : (s.acceptInput k).banks = s.banks := by
  unfold State.acceptInput; simp only []; split <;> simp
@[simp] theorem acceptInput_agent (s : State) (k : Fin 4) : (s.acceptInput k).agent = s.agent := by
  unfold State.acceptInput; simp only []; split <;> simp
@[simp] theorem acceptInput_pending (s : State) (k : Fin 4) : (s.acceptInput k).pending = s.pending := by
  unfold State.acceptInput; simp only []; split <;> simp
@[simp] theorem acceptInput_freeIdx (s : State) (k : Fin 4) : (s.acceptInput k).freeIdx = s.freeIdx := by
  unfold State.acceptInput; simp only []; split <;> simp

@[simp] theorem acceptDue_link (s : State) : (s.acceptDue).link = s.link := by
  unfold State.acceptDue; simp only []; split; · exact overList_keep (fun s : State => s.link) _ (fun s a => by simp) _ _
  · rw [overList_keep (fun s : State => s.link) _ (fun s a => by simp)]; simp
@[simp] theorem acceptDue_tracker (s : State) : (s.acceptDue).tracker = s.tracker := by
  unfold State.acceptDue; simp only []; split; · exact overList_keep (fun s : State => s.tracker) _ (fun s a => by simp) _ _
  · rw [overList_keep (fun s : State => s.tracker) _ (fun s a => by simp)]; simp
@[simp] theorem acceptDue_now (s : State) : (s.acceptDue).now = s.now := by
  unfold State.acceptDue; simp only []; split; · exact overList_keep (fun s : State => s.now) _ (fun s a => by simp) _ _
  · rw [overList_keep (fun s : State => s.now) _ (fun s a => by simp)]; simp
@[simp] theorem acceptDue_channels (s : State) : (s.acceptDue).channels = s.channels := by
  unfold State.acceptDue; simp only []; split; · exact overList_keep (fun s : State => s.channels) _ (fun s a => by simp) _ _
  · rw [overList_keep (fun s : State => s.channels) _ (fun s a => by simp)]; simp
@[simp] theorem acceptDue_watches (s : State) : (s.acceptDue).watches = s.watches := by
  unfold State.acceptDue; simp only []; split; · exact overList_keep (fun s : State => s.watches) _ (fun s a => by simp) _ _
  · rw [overList_keep (fun s : State => s.watches) _ (fun s a => by simp)]; simp
@[simp] theorem acceptDue_banks (s : State) : (s.acceptDue).banks = s.banks := by
  unfold State.acceptDue; simp only []; split; · exact overList_keep (fun s : State => s.banks) _ (fun s a => by simp) _ _
  · rw [overList_keep (fun s : State => s.banks) _ (fun s a => by simp)]; simp
@[simp] theorem acceptDue_agent (s : State) : (s.acceptDue).agent = s.agent := by
  unfold State.acceptDue; simp only []; split; · exact overList_keep (fun s : State => s.agent) _ (fun s a => by simp) _ _
  · rw [overList_keep (fun s : State => s.agent) _ (fun s a => by simp)]; simp
@[simp] theorem acceptDue_pending (s : State) : (s.acceptDue).pending = s.pending := by
  unfold State.acceptDue; simp only []; split; · exact overList_keep (fun s : State => s.pending) _ (fun s a => by simp) _ _
  · rw [overList_keep (fun s : State => s.pending) _ (fun s a => by simp)]; simp

@[simp] theorem swapBanks_link (s : State) : (s.swapBanks).link = s.link := by
  simp [State.swapBanks]
@[simp] theorem swapBanks_forward (s : State) : (s.swapBanks).forward = s.forward := by
  simp [State.swapBanks]
@[simp] theorem swapBanks_tracker (s : State) : (s.swapBanks).tracker = s.tracker := by
  simp [State.swapBanks]
@[simp] theorem swapBanks_now (s : State) : (s.swapBanks).now = s.now := by
  simp [State.swapBanks]
@[simp] theorem swapBanks_intake (s : State) : (s.swapBanks).intake = s.intake := by
  simp [State.swapBanks]
@[simp] theorem swapBanks_burst (s : State) : (s.swapBanks).burst = s.burst := by
  simp [State.swapBanks]
@[simp] theorem swapBanks_inputs (s : State) : (s.swapBanks).inputs = s.inputs := by
  simp [State.swapBanks]
@[simp] theorem swapBanks_agent (s : State) : (s.swapBanks).agent = s.agent := by
  simp [State.swapBanks]
@[simp] theorem swapBanks_engine (s : State) : (s.swapBanks).engine = s.engine := by
  simp [State.swapBanks]
@[simp] theorem swapBanks_faults (s : State) : (s.swapBanks).faults = s.faults := by
  simp [State.swapBanks]
@[simp] theorem swapBanks_counters (s : State) : (s.swapBanks).counters = s.counters := by
  simp [State.swapBanks]
@[simp] theorem swapBanks_pending (s : State) : (s.swapBanks).pending = s.pending := by
  simp [State.swapBanks]
@[simp] theorem swapBanks_freeIdx (s : State) : (s.swapBanks).freeIdx = s.freeIdx := by
  simp [State.swapBanks]

@[simp] theorem swap_link (s : State) : (s.swap).link = s.link := by
  simp [State.swap]
@[simp] theorem swap_tracker (s : State) : (s.swap).tracker = s.tracker := by
  simp [State.swap]
@[simp] theorem swap_now (s : State) : (s.swap).now = s.now := by
  simp [State.swap]
@[simp] theorem swap_agent (s : State) : (s.swap).agent = s.agent := by
  simp [State.swap]
@[simp] theorem swap_pending (s : State) : (s.swap).pending = s.pending := by
  simp [State.swap]

@[simp] theorem releaseAll_link (s : State) : (s.releaseAll).link = s.link := by
  rfl
@[simp] theorem releaseAll_tracker (s : State) : (s.releaseAll).tracker = s.tracker := by
  rfl
@[simp] theorem releaseAll_now (s : State) : (s.releaseAll).now = s.now := by
  rfl
@[simp] theorem releaseAll_intake (s : State) : (s.releaseAll).intake = s.intake := by
  rfl
@[simp] theorem releaseAll_burst (s : State) : (s.releaseAll).burst = s.burst := by
  rfl
@[simp] theorem releaseAll_triggers (s : State) : (s.releaseAll).triggers = s.triggers := by
  rfl
@[simp] theorem releaseAll_channels (s : State) : (s.releaseAll).channels = s.channels := by
  rfl
@[simp] theorem releaseAll_watches (s : State) : (s.releaseAll).watches = s.watches := by
  rfl
@[simp] theorem releaseAll_trains (s : State) : (s.releaseAll).trains = s.trains := by
  rfl
@[simp] theorem releaseAll_timers (s : State) : (s.releaseAll).timers = s.timers := by
  rfl
@[simp] theorem releaseAll_outputs (s : State) : (s.releaseAll).outputs = s.outputs := by
  rfl
@[simp] theorem releaseAll_inputs (s : State) : (s.releaseAll).inputs = s.inputs := by
  rfl
@[simp] theorem releaseAll_patches (s : State) : (s.releaseAll).patches = s.patches := by
  rfl
@[simp] theorem releaseAll_report (s : State) : (s.releaseAll).report = s.report := by
  rfl
@[simp] theorem releaseAll_banks (s : State) : (s.releaseAll).banks = s.banks := by
  rfl
@[simp] theorem releaseAll_agent (s : State) : (s.releaseAll).agent = s.agent := by
  rfl
@[simp] theorem releaseAll_engine (s : State) : (s.releaseAll).engine = s.engine := by
  rfl
@[simp] theorem releaseAll_faults (s : State) : (s.releaseAll).faults = s.faults := by
  rfl
@[simp] theorem releaseAll_counters (s : State) : (s.releaseAll).counters = s.counters := by
  rfl
@[simp] theorem releaseAll_pending (s : State) : (s.releaseAll).pending = s.pending := by
  rfl
@[simp] theorem releaseAll_freeIdx (s : State) : (s.releaseAll).freeIdx = s.freeIdx := by
  rfl

@[simp] theorem engineReset_link (s : State) : (s.engineReset).link = s.link := by
  simp [State.engineReset]
@[simp] theorem engineReset_tracker (s : State) : (s.engineReset).tracker = s.tracker := by
  simp [State.engineReset]
@[simp] theorem engineReset_now (s : State) : (s.engineReset).now = s.now := by
  simp [State.engineReset]
@[simp] theorem engineReset_inputs (s : State) : (s.engineReset).inputs = s.inputs := by
  simp [State.engineReset]
@[simp] theorem engineReset_agent (s : State) : (s.engineReset).agent = s.agent := by
  simp [State.engineReset]
@[simp] theorem engineReset_counters (s : State) : (s.engineReset).counters = s.counters := by
  simp [State.engineReset]
@[simp] theorem engineReset_pending (s : State) : (s.engineReset).pending = s.pending := by
  simp [State.engineReset]
@[simp] theorem engineReset_freeIdx (s : State) : (s.engineReset).freeIdx = s.freeIdx := by
  simp [State.engineReset]

@[simp] theorem configClear_link (s : State) : (s.configClear).link = s.link := by
  simp [State.configClear]
@[simp] theorem configClear_tracker (s : State) : (s.configClear).tracker = s.tracker := by
  simp [State.configClear]
@[simp] theorem configClear_now (s : State) : (s.configClear).now = s.now := by
  simp [State.configClear]
@[simp] theorem configClear_agent (s : State) : (s.configClear).agent = s.agent := by
  simp [State.configClear]
@[simp] theorem configClear_pending (s : State) : (s.configClear).pending = s.pending := by
  simp [State.configClear]

@[simp] theorem putBurst_link (s : State) (b : Burst) : (s.putBurst b).link = s.link := by
  rfl
@[simp] theorem putBurst_forward (s : State) (b : Burst) : (s.putBurst b).forward = s.forward := by
  rfl
@[simp] theorem putBurst_tracker (s : State) (b : Burst) : (s.putBurst b).tracker = s.tracker := by
  rfl
@[simp] theorem putBurst_now (s : State) (b : Burst) : (s.putBurst b).now = s.now := by
  rfl
@[simp] theorem putBurst_intake (s : State) (b : Burst) : (s.putBurst b).intake = s.intake := by
  rfl
@[simp] theorem putBurst_triggers (s : State) (b : Burst) : (s.putBurst b).triggers = s.triggers := by
  rfl
@[simp] theorem putBurst_channels (s : State) (b : Burst) : (s.putBurst b).channels = s.channels := by
  rfl
@[simp] theorem putBurst_watches (s : State) (b : Burst) : (s.putBurst b).watches = s.watches := by
  rfl
@[simp] theorem putBurst_trains (s : State) (b : Burst) : (s.putBurst b).trains = s.trains := by
  rfl
@[simp] theorem putBurst_timers (s : State) (b : Burst) : (s.putBurst b).timers = s.timers := by
  rfl
@[simp] theorem putBurst_outputs (s : State) (b : Burst) : (s.putBurst b).outputs = s.outputs := by
  rfl
@[simp] theorem putBurst_inputs (s : State) (b : Burst) : (s.putBurst b).inputs = s.inputs := by
  rfl
@[simp] theorem putBurst_patches (s : State) (b : Burst) : (s.putBurst b).patches = s.patches := by
  rfl
@[simp] theorem putBurst_report (s : State) (b : Burst) : (s.putBurst b).report = s.report := by
  rfl
@[simp] theorem putBurst_banks (s : State) (b : Burst) : (s.putBurst b).banks = s.banks := by
  rfl
@[simp] theorem putBurst_agent (s : State) (b : Burst) : (s.putBurst b).agent = s.agent := by
  rfl
@[simp] theorem putBurst_engine (s : State) (b : Burst) : (s.putBurst b).engine = s.engine := by
  rfl
@[simp] theorem putBurst_faults (s : State) (b : Burst) : (s.putBurst b).faults = s.faults := by
  rfl
@[simp] theorem putBurst_counters (s : State) (b : Burst) : (s.putBurst b).counters = s.counters := by
  rfl
@[simp] theorem putBurst_pending (s : State) (b : Burst) : (s.putBurst b).pending = s.pending := by
  rfl
@[simp] theorem putBurst_freeIdx (s : State) (b : Burst) : (s.putBurst b).freeIdx = s.freeIdx := by
  rfl

@[simp] theorem completeFiring_link (s : State) (t : Fin 48) (e : Entry) (l : Option (Fin 48)) : (s.completeFiring t e l).link = s.link := by
  simp only [State.completeFiring]; split <;> simp
@[simp] theorem completeFiring_forward (s : State) (t : Fin 48) (e : Entry) (l : Option (Fin 48)) : (s.completeFiring t e l).forward = s.forward := by
  simp only [State.completeFiring]; split <;> simp
@[simp] theorem completeFiring_tracker (s : State) (t : Fin 48) (e : Entry) (l : Option (Fin 48)) : (s.completeFiring t e l).tracker = s.tracker := by
  simp only [State.completeFiring]; split <;> simp
@[simp] theorem completeFiring_now (s : State) (t : Fin 48) (e : Entry) (l : Option (Fin 48)) : (s.completeFiring t e l).now = s.now := by
  simp only [State.completeFiring]; split <;> simp
@[simp] theorem completeFiring_intake (s : State) (t : Fin 48) (e : Entry) (l : Option (Fin 48)) : (s.completeFiring t e l).intake = s.intake := by
  simp only [State.completeFiring]; split <;> simp
@[simp] theorem completeFiring_burst (s : State) (t : Fin 48) (e : Entry) (l : Option (Fin 48)) : (s.completeFiring t e l).burst = s.burst := by
  simp only [State.completeFiring]; split <;> simp
@[simp] theorem completeFiring_channels (s : State) (t : Fin 48) (e : Entry) (l : Option (Fin 48)) : (s.completeFiring t e l).channels = s.channels := by
  simp only [State.completeFiring]; split <;> simp
@[simp] theorem completeFiring_watches (s : State) (t : Fin 48) (e : Entry) (l : Option (Fin 48)) : (s.completeFiring t e l).watches = s.watches := by
  simp only [State.completeFiring]; split <;> simp
@[simp] theorem completeFiring_trains (s : State) (t : Fin 48) (e : Entry) (l : Option (Fin 48)) : (s.completeFiring t e l).trains = s.trains := by
  simp only [State.completeFiring]; split <;> simp
@[simp] theorem completeFiring_timers (s : State) (t : Fin 48) (e : Entry) (l : Option (Fin 48)) : (s.completeFiring t e l).timers = s.timers := by
  simp only [State.completeFiring]; split <;> simp
@[simp] theorem completeFiring_outputs (s : State) (t : Fin 48) (e : Entry) (l : Option (Fin 48)) : (s.completeFiring t e l).outputs = s.outputs := by
  simp only [State.completeFiring]; split <;> simp
@[simp] theorem completeFiring_inputs (s : State) (t : Fin 48) (e : Entry) (l : Option (Fin 48)) : (s.completeFiring t e l).inputs = s.inputs := by
  simp only [State.completeFiring]; split <;> simp
@[simp] theorem completeFiring_patches (s : State) (t : Fin 48) (e : Entry) (l : Option (Fin 48)) : (s.completeFiring t e l).patches = s.patches := by
  simp only [State.completeFiring]; split <;> simp
@[simp] theorem completeFiring_banks (s : State) (t : Fin 48) (e : Entry) (l : Option (Fin 48)) : (s.completeFiring t e l).banks = s.banks := by
  simp only [State.completeFiring]; split <;> simp
@[simp] theorem completeFiring_agent (s : State) (t : Fin 48) (e : Entry) (l : Option (Fin 48)) : (s.completeFiring t e l).agent = s.agent := by
  simp only [State.completeFiring]; split <;> simp
@[simp] theorem completeFiring_pending (s : State) (t : Fin 48) (e : Entry) (l : Option (Fin 48)) : (s.completeFiring t e l).pending = s.pending := by
  simp only [State.completeFiring]; split <;> simp
@[simp] theorem completeFiring_freeIdx (s : State) (t : Fin 48) (e : Entry) (l : Option (Fin 48)) : (s.completeFiring t e l).freeIdx = s.freeIdx := by
  simp only [State.completeFiring]; split <;> simp

@[simp] theorem takeEntry_link (s : State) (b : Burst) (e : Entry) (r : List Entry) : (s.takeEntry b e r).link = s.link := by
  simp only [State.takeEntry]; split; · simp
  · split <;> simp
@[simp] theorem takeEntry_forward (s : State) (b : Burst) (e : Entry) (r : List Entry) : (s.takeEntry b e r).forward = s.forward := by
  simp only [State.takeEntry]; split; · simp
  · split <;> simp
@[simp] theorem takeEntry_tracker (s : State) (b : Burst) (e : Entry) (r : List Entry) : (s.takeEntry b e r).tracker = s.tracker := by
  simp only [State.takeEntry]; split; · simp
  · split <;> simp
@[simp] theorem takeEntry_now (s : State) (b : Burst) (e : Entry) (r : List Entry) : (s.takeEntry b e r).now = s.now := by
  simp only [State.takeEntry]; split; · simp
  · split <;> simp
@[simp] theorem takeEntry_intake (s : State) (b : Burst) (e : Entry) (r : List Entry) : (s.takeEntry b e r).intake = s.intake := by
  simp only [State.takeEntry]; split; · simp
  · split <;> simp
@[simp] theorem takeEntry_channels (s : State) (b : Burst) (e : Entry) (r : List Entry) : (s.takeEntry b e r).channels = s.channels := by
  simp only [State.takeEntry]; split; · simp
  · split <;> simp
@[simp] theorem takeEntry_watches (s : State) (b : Burst) (e : Entry) (r : List Entry) : (s.takeEntry b e r).watches = s.watches := by
  simp only [State.takeEntry]; split; · simp
  · split <;> simp
@[simp] theorem takeEntry_trains (s : State) (b : Burst) (e : Entry) (r : List Entry) : (s.takeEntry b e r).trains = s.trains := by
  simp only [State.takeEntry]; split; · simp
  · split <;> simp
@[simp] theorem takeEntry_timers (s : State) (b : Burst) (e : Entry) (r : List Entry) : (s.takeEntry b e r).timers = s.timers := by
  simp only [State.takeEntry]; split; · simp
  · split <;> simp
@[simp] theorem takeEntry_outputs (s : State) (b : Burst) (e : Entry) (r : List Entry) : (s.takeEntry b e r).outputs = s.outputs := by
  simp only [State.takeEntry]; split; · simp
  · split <;> simp
@[simp] theorem takeEntry_inputs (s : State) (b : Burst) (e : Entry) (r : List Entry) : (s.takeEntry b e r).inputs = s.inputs := by
  simp only [State.takeEntry]; split; · simp
  · split <;> simp
@[simp] theorem takeEntry_patches (s : State) (b : Burst) (e : Entry) (r : List Entry) : (s.takeEntry b e r).patches = s.patches := by
  simp only [State.takeEntry]; split; · simp
  · split <;> simp
@[simp] theorem takeEntry_report (s : State) (b : Burst) (e : Entry) (r : List Entry) : (s.takeEntry b e r).report = s.report := by
  simp only [State.takeEntry]; split; · simp
  · split <;> simp
@[simp] theorem takeEntry_banks (s : State) (b : Burst) (e : Entry) (r : List Entry) : (s.takeEntry b e r).banks = s.banks := by
  simp only [State.takeEntry]; split; · simp
  · split <;> simp
@[simp] theorem takeEntry_agent (s : State) (b : Burst) (e : Entry) (r : List Entry) : (s.takeEntry b e r).agent = s.agent := by
  simp only [State.takeEntry]; split; · simp
  · split <;> simp
@[simp] theorem takeEntry_engine (s : State) (b : Burst) (e : Entry) (r : List Entry) : (s.takeEntry b e r).engine = s.engine := by
  simp only [State.takeEntry]; split; · simp
  · split <;> simp
@[simp] theorem takeEntry_faults (s : State) (b : Burst) (e : Entry) (r : List Entry) : (s.takeEntry b e r).faults = s.faults := by
  simp only [State.takeEntry]; split; · simp
  · split <;> simp
@[simp] theorem takeEntry_pending (s : State) (b : Burst) (e : Entry) (r : List Entry) : (s.takeEntry b e r).pending = s.pending := by
  simp only [State.takeEntry]; split; · simp
  · split <;> simp
@[simp] theorem takeEntry_freeIdx (s : State) (b : Burst) (e : Entry) (r : List Entry) : (s.takeEntry b e r).freeIdx = s.freeIdx := by
  simp only [State.takeEntry]; split; · simp
  · split <;> simp

@[simp] theorem examineMember_link (s : State) (b : Burst) (f : Firing) (m : Fin 48) (r : List (Fin 48)) : (s.examineMember b f m r).link = s.link := by
  simp only [State.examineMember]; split; · simp
  · split <;> simp
@[simp] theorem examineMember_forward (s : State) (b : Burst) (f : Firing) (m : Fin 48) (r : List (Fin 48)) : (s.examineMember b f m r).forward = s.forward := by
  simp only [State.examineMember]; split; · simp
  · split <;> simp
@[simp] theorem examineMember_tracker (s : State) (b : Burst) (f : Firing) (m : Fin 48) (r : List (Fin 48)) : (s.examineMember b f m r).tracker = s.tracker := by
  simp only [State.examineMember]; split; · simp
  · split <;> simp
@[simp] theorem examineMember_now (s : State) (b : Burst) (f : Firing) (m : Fin 48) (r : List (Fin 48)) : (s.examineMember b f m r).now = s.now := by
  simp only [State.examineMember]; split; · simp
  · split <;> simp
@[simp] theorem examineMember_intake (s : State) (b : Burst) (f : Firing) (m : Fin 48) (r : List (Fin 48)) : (s.examineMember b f m r).intake = s.intake := by
  simp only [State.examineMember]; split; · simp
  · split <;> simp
@[simp] theorem examineMember_channels (s : State) (b : Burst) (f : Firing) (m : Fin 48) (r : List (Fin 48)) : (s.examineMember b f m r).channels = s.channels := by
  simp only [State.examineMember]; split; · simp
  · split <;> simp
@[simp] theorem examineMember_watches (s : State) (b : Burst) (f : Firing) (m : Fin 48) (r : List (Fin 48)) : (s.examineMember b f m r).watches = s.watches := by
  simp only [State.examineMember]; split; · simp
  · split <;> simp
@[simp] theorem examineMember_trains (s : State) (b : Burst) (f : Firing) (m : Fin 48) (r : List (Fin 48)) : (s.examineMember b f m r).trains = s.trains := by
  simp only [State.examineMember]; split; · simp
  · split <;> simp
@[simp] theorem examineMember_timers (s : State) (b : Burst) (f : Firing) (m : Fin 48) (r : List (Fin 48)) : (s.examineMember b f m r).timers = s.timers := by
  simp only [State.examineMember]; split; · simp
  · split <;> simp
@[simp] theorem examineMember_outputs (s : State) (b : Burst) (f : Firing) (m : Fin 48) (r : List (Fin 48)) : (s.examineMember b f m r).outputs = s.outputs := by
  simp only [State.examineMember]; split; · simp
  · split <;> simp
@[simp] theorem examineMember_inputs (s : State) (b : Burst) (f : Firing) (m : Fin 48) (r : List (Fin 48)) : (s.examineMember b f m r).inputs = s.inputs := by
  simp only [State.examineMember]; split; · simp
  · split <;> simp
@[simp] theorem examineMember_patches (s : State) (b : Burst) (f : Firing) (m : Fin 48) (r : List (Fin 48)) : (s.examineMember b f m r).patches = s.patches := by
  simp only [State.examineMember]; split; · simp
  · split <;> simp
@[simp] theorem examineMember_report (s : State) (b : Burst) (f : Firing) (m : Fin 48) (r : List (Fin 48)) : (s.examineMember b f m r).report = s.report := by
  simp only [State.examineMember]; split; · simp
  · split <;> simp
@[simp] theorem examineMember_banks (s : State) (b : Burst) (f : Firing) (m : Fin 48) (r : List (Fin 48)) : (s.examineMember b f m r).banks = s.banks := by
  simp only [State.examineMember]; split; · simp
  · split <;> simp
@[simp] theorem examineMember_agent (s : State) (b : Burst) (f : Firing) (m : Fin 48) (r : List (Fin 48)) : (s.examineMember b f m r).agent = s.agent := by
  simp only [State.examineMember]; split; · simp
  · split <;> simp
@[simp] theorem examineMember_engine (s : State) (b : Burst) (f : Firing) (m : Fin 48) (r : List (Fin 48)) : (s.examineMember b f m r).engine = s.engine := by
  simp only [State.examineMember]; split; · simp
  · split <;> simp
@[simp] theorem examineMember_faults (s : State) (b : Burst) (f : Firing) (m : Fin 48) (r : List (Fin 48)) : (s.examineMember b f m r).faults = s.faults := by
  simp only [State.examineMember]; split; · simp
  · split <;> simp
@[simp] theorem examineMember_pending (s : State) (b : Burst) (f : Firing) (m : Fin 48) (r : List (Fin 48)) : (s.examineMember b f m r).pending = s.pending := by
  simp only [State.examineMember]; split; · simp
  · split <;> simp
@[simp] theorem examineMember_freeIdx (s : State) (b : Burst) (f : Firing) (m : Fin 48) (r : List (Fin 48)) : (s.examineMember b f m r).freeIdx = s.freeIdx := by
  simp only [State.examineMember]; split; · simp
  · split <;> simp

@[simp] theorem closeSegment_now (s : State) : (s.closeSegment).now = s.now := by
  simp [State.closeSegment, State.advanceClose]
@[simp] theorem closeSegment_channels (s : State) : (s.closeSegment).channels = s.channels := by
  simp [State.closeSegment, State.advanceClose]
@[simp] theorem closeSegment_watches (s : State) : (s.closeSegment).watches = s.watches := by
  simp [State.closeSegment, State.advanceClose]
@[simp] theorem closeSegment_inputs (s : State) : (s.closeSegment).inputs = s.inputs := by
  simp [State.closeSegment, State.advanceClose]
@[simp] theorem closeSegment_banks (s : State) : (s.closeSegment).banks = s.banks := by
  simp [State.closeSegment, State.advanceClose]
@[simp] theorem closeSegment_pending (s : State) : (s.closeSegment).pending = s.pending := by
  simp [State.closeSegment, State.advanceClose]
@[simp] theorem closeSegment_freeIdx (s : State) : (s.closeSegment).freeIdx = s.freeIdx := by
  simp [State.closeSegment, State.advanceClose]

@[simp] theorem impliedClose_now (s : State) : (s.impliedClose).now = s.now := by
  simp [State.impliedClose]
@[simp] theorem impliedClose_channels (s : State) : (s.impliedClose).channels = s.channels := by
  simp [State.impliedClose]
@[simp] theorem impliedClose_watches (s : State) : (s.impliedClose).watches = s.watches := by
  simp [State.impliedClose]
@[simp] theorem impliedClose_inputs (s : State) : (s.impliedClose).inputs = s.inputs := by
  simp [State.impliedClose]
@[simp] theorem impliedClose_banks (s : State) : (s.impliedClose).banks = s.banks := by
  simp [State.impliedClose]
@[simp] theorem impliedClose_pending (s : State) : (s.impliedClose).pending = s.pending := by
  simp [State.impliedClose]
@[simp] theorem impliedClose_freeIdx (s : State) : (s.impliedClose).freeIdx = s.freeIdx := by
  simp [State.impliedClose]

@[simp] theorem enterLost_link (s : State) (d : Nat) : (s.enterLost d).link = s.link := by
  simp [State.enterLost]
@[simp] theorem enterLost_now (s : State) (d : Nat) : (s.enterLost d).now = s.now := by
  simp [State.enterLost]
@[simp] theorem enterLost_channels (s : State) (d : Nat) : (s.enterLost d).channels = s.channels := by
  simp [State.enterLost]
@[simp] theorem enterLost_watches (s : State) (d : Nat) : (s.enterLost d).watches = s.watches := by
  simp [State.enterLost]
@[simp] theorem enterLost_inputs (s : State) (d : Nat) : (s.enterLost d).inputs = s.inputs := by
  simp [State.enterLost]
@[simp] theorem enterLost_banks (s : State) (d : Nat) : (s.enterLost d).banks = s.banks := by
  simp [State.enterLost]
@[simp] theorem enterLost_agent (s : State) (d : Nat) : (s.enterLost d).agent = s.agent := by
  simp [State.enterLost]
@[simp] theorem enterLost_pending (s : State) (d : Nat) : (s.enterLost d).pending = s.pending := by
  simp [State.enterLost]
@[simp] theorem enterLost_freeIdx (s : State) (d : Nat) : (s.enterLost d).freeIdx = s.freeIdx := by
  simp [State.enterLost]

@[simp] theorem takeStopClaim_link (s : State) : (s.takeStopClaim).link = s.link := by
  unfold State.takeStopClaim; (try split) <;> simp
@[simp] theorem takeStopClaim_forward (s : State) : (s.takeStopClaim).forward = s.forward := by
  unfold State.takeStopClaim; (try split) <;> simp
@[simp] theorem takeStopClaim_tracker (s : State) : (s.takeStopClaim).tracker = s.tracker := by
  unfold State.takeStopClaim; (try split) <;> simp
@[simp] theorem takeStopClaim_now (s : State) : (s.takeStopClaim).now = s.now := by
  unfold State.takeStopClaim; (try split) <;> simp
@[simp] theorem takeStopClaim_intake (s : State) : (s.takeStopClaim).intake = s.intake := by
  unfold State.takeStopClaim; (try split) <;> simp
@[simp] theorem takeStopClaim_channels (s : State) : (s.takeStopClaim).channels = s.channels := by
  unfold State.takeStopClaim; (try split) <;> simp
@[simp] theorem takeStopClaim_watches (s : State) : (s.takeStopClaim).watches = s.watches := by
  unfold State.takeStopClaim; (try split) <;> simp
@[simp] theorem takeStopClaim_inputs (s : State) : (s.takeStopClaim).inputs = s.inputs := by
  unfold State.takeStopClaim; (try split) <;> simp
@[simp] theorem takeStopClaim_report (s : State) : (s.takeStopClaim).report = s.report := by
  unfold State.takeStopClaim; (try split) <;> simp
@[simp] theorem takeStopClaim_banks (s : State) : (s.takeStopClaim).banks = s.banks := by
  unfold State.takeStopClaim; (try split) <;> simp
@[simp] theorem takeStopClaim_faults (s : State) : (s.takeStopClaim).faults = s.faults := by
  unfold State.takeStopClaim; (try split) <;> simp
@[simp] theorem takeStopClaim_counters (s : State) : (s.takeStopClaim).counters = s.counters := by
  unfold State.takeStopClaim; (try split) <;> simp
@[simp] theorem takeStopClaim_pending (s : State) : (s.takeStopClaim).pending = s.pending := by
  unfold State.takeStopClaim; (try split) <;> simp
@[simp] theorem takeStopClaim_freeIdx (s : State) : (s.takeStopClaim).freeIdx = s.freeIdx := by
  unfold State.takeStopClaim; (try split) <;> simp

@[simp] theorem broadcastStop_link (s : State) : (s.broadcastStop).link = s.link := by
  simp only [State.broadcastStop]; split <;> simp
@[simp] theorem broadcastStop_forward (s : State) : (s.broadcastStop).forward = s.forward := by
  simp only [State.broadcastStop]; split <;> simp
@[simp] theorem broadcastStop_tracker (s : State) : (s.broadcastStop).tracker = s.tracker := by
  simp only [State.broadcastStop]; split <;> simp
@[simp] theorem broadcastStop_now (s : State) : (s.broadcastStop).now = s.now := by
  simp only [State.broadcastStop]; split <;> simp
@[simp] theorem broadcastStop_intake (s : State) : (s.broadcastStop).intake = s.intake := by
  simp only [State.broadcastStop]; split <;> simp
@[simp] theorem broadcastStop_channels (s : State) : (s.broadcastStop).channels = s.channels := by
  simp only [State.broadcastStop]; split <;> simp
@[simp] theorem broadcastStop_watches (s : State) : (s.broadcastStop).watches = s.watches := by
  simp only [State.broadcastStop]; split <;> simp
@[simp] theorem broadcastStop_inputs (s : State) : (s.broadcastStop).inputs = s.inputs := by
  simp only [State.broadcastStop]; split <;> simp
@[simp] theorem broadcastStop_report (s : State) : (s.broadcastStop).report = s.report := by
  simp only [State.broadcastStop]; split <;> simp
@[simp] theorem broadcastStop_banks (s : State) : (s.broadcastStop).banks = s.banks := by
  simp only [State.broadcastStop]; split <;> simp
@[simp] theorem broadcastStop_faults (s : State) : (s.broadcastStop).faults = s.faults := by
  simp only [State.broadcastStop]; split <;> simp
@[simp] theorem broadcastStop_counters (s : State) : (s.broadcastStop).counters = s.counters := by
  simp only [State.broadcastStop]; split <;> simp
@[simp] theorem broadcastStop_pending (s : State) : (s.broadcastStop).pending = s.pending := by
  simp only [State.broadcastStop]; split <;> simp
@[simp] theorem broadcastStop_freeIdx (s : State) : (s.broadcastStop).freeIdx = s.freeIdx := by
  simp only [State.broadcastStop]; split <;> simp

@[simp] theorem hearFrame_forward (s : State) (f : Frame) : (s.hearFrame f).forward = s.forward := by
  rfl
@[simp] theorem hearFrame_tracker (s : State) (f : Frame) : (s.hearFrame f).tracker = s.tracker := by
  rfl
@[simp] theorem hearFrame_now (s : State) (f : Frame) : (s.hearFrame f).now = s.now := by
  rfl
@[simp] theorem hearFrame_intake (s : State) (f : Frame) : (s.hearFrame f).intake = s.intake := by
  rfl
@[simp] theorem hearFrame_burst (s : State) (f : Frame) : (s.hearFrame f).burst = s.burst := by
  rfl
@[simp] theorem hearFrame_triggers (s : State) (f : Frame) : (s.hearFrame f).triggers = s.triggers := by
  rfl
@[simp] theorem hearFrame_channels (s : State) (f : Frame) : (s.hearFrame f).channels = s.channels := by
  rfl
@[simp] theorem hearFrame_watches (s : State) (f : Frame) : (s.hearFrame f).watches = s.watches := by
  rfl
@[simp] theorem hearFrame_trains (s : State) (f : Frame) : (s.hearFrame f).trains = s.trains := by
  rfl
@[simp] theorem hearFrame_timers (s : State) (f : Frame) : (s.hearFrame f).timers = s.timers := by
  rfl
@[simp] theorem hearFrame_outputs (s : State) (f : Frame) : (s.hearFrame f).outputs = s.outputs := by
  rfl
@[simp] theorem hearFrame_inputs (s : State) (f : Frame) : (s.hearFrame f).inputs = s.inputs := by
  rfl
@[simp] theorem hearFrame_patches (s : State) (f : Frame) : (s.hearFrame f).patches = s.patches := by
  rfl
@[simp] theorem hearFrame_report (s : State) (f : Frame) : (s.hearFrame f).report = s.report := by
  rfl
@[simp] theorem hearFrame_banks (s : State) (f : Frame) : (s.hearFrame f).banks = s.banks := by
  rfl
@[simp] theorem hearFrame_agent (s : State) (f : Frame) : (s.hearFrame f).agent = s.agent := by
  rfl
@[simp] theorem hearFrame_engine (s : State) (f : Frame) : (s.hearFrame f).engine = s.engine := by
  rfl
@[simp] theorem hearFrame_faults (s : State) (f : Frame) : (s.hearFrame f).faults = s.faults := by
  rfl
@[simp] theorem hearFrame_counters (s : State) (f : Frame) : (s.hearFrame f).counters = s.counters := by
  rfl
@[simp] theorem hearFrame_pending (s : State) (f : Frame) : (s.hearFrame f).pending = s.pending := by
  rfl
@[simp] theorem hearFrame_freeIdx (s : State) (f : Frame) : (s.hearFrame f).freeIdx = s.freeIdx := by
  rfl

@[simp] theorem receive_forward (s : State) (f : Frame) : (s.receive f).forward = s.forward := by
  rfl
@[simp] theorem receive_tracker (s : State) (f : Frame) : (s.receive f).tracker = s.tracker := by
  rfl
@[simp] theorem receive_now (s : State) (f : Frame) : (s.receive f).now = s.now := by
  rfl
@[simp] theorem receive_intake (s : State) (f : Frame) : (s.receive f).intake = s.intake := by
  rfl
@[simp] theorem receive_burst (s : State) (f : Frame) : (s.receive f).burst = s.burst := by
  rfl
@[simp] theorem receive_triggers (s : State) (f : Frame) : (s.receive f).triggers = s.triggers := by
  rfl
@[simp] theorem receive_channels (s : State) (f : Frame) : (s.receive f).channels = s.channels := by
  rfl
@[simp] theorem receive_watches (s : State) (f : Frame) : (s.receive f).watches = s.watches := by
  rfl
@[simp] theorem receive_trains (s : State) (f : Frame) : (s.receive f).trains = s.trains := by
  rfl
@[simp] theorem receive_timers (s : State) (f : Frame) : (s.receive f).timers = s.timers := by
  rfl
@[simp] theorem receive_outputs (s : State) (f : Frame) : (s.receive f).outputs = s.outputs := by
  rfl
@[simp] theorem receive_inputs (s : State) (f : Frame) : (s.receive f).inputs = s.inputs := by
  rfl
@[simp] theorem receive_patches (s : State) (f : Frame) : (s.receive f).patches = s.patches := by
  rfl
@[simp] theorem receive_report (s : State) (f : Frame) : (s.receive f).report = s.report := by
  rfl
@[simp] theorem receive_banks (s : State) (f : Frame) : (s.receive f).banks = s.banks := by
  rfl
@[simp] theorem receive_agent (s : State) (f : Frame) : (s.receive f).agent = s.agent := by
  rfl
@[simp] theorem receive_engine (s : State) (f : Frame) : (s.receive f).engine = s.engine := by
  rfl
@[simp] theorem receive_faults (s : State) (f : Frame) : (s.receive f).faults = s.faults := by
  rfl
@[simp] theorem receive_pending (s : State) (f : Frame) : (s.receive f).pending = s.pending := by
  rfl
@[simp] theorem receive_freeIdx (s : State) (f : Frame) : (s.receive f).freeIdx = s.freeIdx := by
  rfl

@[simp] theorem unlockTracker_link (s : State) : (s.unlockTracker).link = s.link := by
  rfl
@[simp] theorem unlockTracker_forward (s : State) : (s.unlockTracker).forward = s.forward := by
  rfl
@[simp] theorem unlockTracker_now (s : State) : (s.unlockTracker).now = s.now := by
  rfl
@[simp] theorem unlockTracker_intake (s : State) : (s.unlockTracker).intake = s.intake := by
  rfl
@[simp] theorem unlockTracker_burst (s : State) : (s.unlockTracker).burst = s.burst := by
  rfl
@[simp] theorem unlockTracker_triggers (s : State) : (s.unlockTracker).triggers = s.triggers := by
  rfl
@[simp] theorem unlockTracker_channels (s : State) : (s.unlockTracker).channels = s.channels := by
  rfl
@[simp] theorem unlockTracker_watches (s : State) : (s.unlockTracker).watches = s.watches := by
  rfl
@[simp] theorem unlockTracker_trains (s : State) : (s.unlockTracker).trains = s.trains := by
  rfl
@[simp] theorem unlockTracker_timers (s : State) : (s.unlockTracker).timers = s.timers := by
  rfl
@[simp] theorem unlockTracker_outputs (s : State) : (s.unlockTracker).outputs = s.outputs := by
  rfl
@[simp] theorem unlockTracker_inputs (s : State) : (s.unlockTracker).inputs = s.inputs := by
  rfl
@[simp] theorem unlockTracker_patches (s : State) : (s.unlockTracker).patches = s.patches := by
  rfl
@[simp] theorem unlockTracker_report (s : State) : (s.unlockTracker).report = s.report := by
  rfl
@[simp] theorem unlockTracker_banks (s : State) : (s.unlockTracker).banks = s.banks := by
  rfl
@[simp] theorem unlockTracker_agent (s : State) : (s.unlockTracker).agent = s.agent := by
  rfl
@[simp] theorem unlockTracker_engine (s : State) : (s.unlockTracker).engine = s.engine := by
  rfl
@[simp] theorem unlockTracker_faults (s : State) : (s.unlockTracker).faults = s.faults := by
  rfl
@[simp] theorem unlockTracker_counters (s : State) : (s.unlockTracker).counters = s.counters := by
  rfl
@[simp] theorem unlockTracker_pending (s : State) : (s.unlockTracker).pending = s.pending := by
  rfl
@[simp] theorem unlockTracker_freeIdx (s : State) : (s.unlockTracker).freeIdx = s.freeIdx := by
  rfl

@[simp] theorem finishSending_forward (s : State) : (s.finishSending).forward = s.forward := by
  unfold State.finishSending; (try split) <;> simp
@[simp] theorem finishSending_tracker (s : State) : (s.finishSending).tracker = s.tracker := by
  unfold State.finishSending; (try split) <;> simp
@[simp] theorem finishSending_now (s : State) : (s.finishSending).now = s.now := by
  unfold State.finishSending; (try split) <;> simp
@[simp] theorem finishSending_intake (s : State) : (s.finishSending).intake = s.intake := by
  unfold State.finishSending; (try split) <;> simp
@[simp] theorem finishSending_burst (s : State) : (s.finishSending).burst = s.burst := by
  unfold State.finishSending; (try split) <;> simp
@[simp] theorem finishSending_triggers (s : State) : (s.finishSending).triggers = s.triggers := by
  unfold State.finishSending; (try split) <;> simp
@[simp] theorem finishSending_channels (s : State) : (s.finishSending).channels = s.channels := by
  unfold State.finishSending; (try split) <;> simp
@[simp] theorem finishSending_watches (s : State) : (s.finishSending).watches = s.watches := by
  unfold State.finishSending; (try split) <;> simp
@[simp] theorem finishSending_trains (s : State) : (s.finishSending).trains = s.trains := by
  unfold State.finishSending; (try split) <;> simp
@[simp] theorem finishSending_timers (s : State) : (s.finishSending).timers = s.timers := by
  unfold State.finishSending; (try split) <;> simp
@[simp] theorem finishSending_outputs (s : State) : (s.finishSending).outputs = s.outputs := by
  unfold State.finishSending; (try split) <;> simp
@[simp] theorem finishSending_inputs (s : State) : (s.finishSending).inputs = s.inputs := by
  unfold State.finishSending; (try split) <;> simp
@[simp] theorem finishSending_patches (s : State) : (s.finishSending).patches = s.patches := by
  unfold State.finishSending; (try split) <;> simp
@[simp] theorem finishSending_report (s : State) : (s.finishSending).report = s.report := by
  unfold State.finishSending; (try split) <;> simp
@[simp] theorem finishSending_banks (s : State) : (s.finishSending).banks = s.banks := by
  unfold State.finishSending; (try split) <;> simp
@[simp] theorem finishSending_agent (s : State) : (s.finishSending).agent = s.agent := by
  unfold State.finishSending; (try split) <;> simp
@[simp] theorem finishSending_engine (s : State) : (s.finishSending).engine = s.engine := by
  unfold State.finishSending; (try split) <;> simp
@[simp] theorem finishSending_faults (s : State) : (s.finishSending).faults = s.faults := by
  unfold State.finishSending; (try split) <;> simp
@[simp] theorem finishSending_counters (s : State) : (s.finishSending).counters = s.counters := by
  unfold State.finishSending; (try split) <;> simp
@[simp] theorem finishSending_pending (s : State) : (s.finishSending).pending = s.pending := by
  unfold State.finishSending; (try split) <;> simp
@[simp] theorem finishSending_freeIdx (s : State) : (s.finishSending).freeIdx = s.freeIdx := by
  unfold State.finishSending; (try split) <;> simp

@[simp] theorem transmit_forward (s : State) (f : Frame) : (s.transmit f).forward = s.forward := by
  unfold State.transmit; (try split) <;> simp
@[simp] theorem transmit_tracker (s : State) (f : Frame) : (s.transmit f).tracker = s.tracker := by
  unfold State.transmit; (try split) <;> simp
@[simp] theorem transmit_now (s : State) (f : Frame) : (s.transmit f).now = s.now := by
  unfold State.transmit; (try split) <;> simp
@[simp] theorem transmit_intake (s : State) (f : Frame) : (s.transmit f).intake = s.intake := by
  unfold State.transmit; (try split) <;> simp
@[simp] theorem transmit_burst (s : State) (f : Frame) : (s.transmit f).burst = s.burst := by
  unfold State.transmit; (try split) <;> simp
@[simp] theorem transmit_triggers (s : State) (f : Frame) : (s.transmit f).triggers = s.triggers := by
  unfold State.transmit; (try split) <;> simp
@[simp] theorem transmit_channels (s : State) (f : Frame) : (s.transmit f).channels = s.channels := by
  unfold State.transmit; (try split) <;> simp
@[simp] theorem transmit_watches (s : State) (f : Frame) : (s.transmit f).watches = s.watches := by
  unfold State.transmit; (try split) <;> simp
@[simp] theorem transmit_trains (s : State) (f : Frame) : (s.transmit f).trains = s.trains := by
  unfold State.transmit; (try split) <;> simp
@[simp] theorem transmit_timers (s : State) (f : Frame) : (s.transmit f).timers = s.timers := by
  unfold State.transmit; (try split) <;> simp
@[simp] theorem transmit_outputs (s : State) (f : Frame) : (s.transmit f).outputs = s.outputs := by
  unfold State.transmit; (try split) <;> simp
@[simp] theorem transmit_inputs (s : State) (f : Frame) : (s.transmit f).inputs = s.inputs := by
  unfold State.transmit; (try split) <;> simp
@[simp] theorem transmit_patches (s : State) (f : Frame) : (s.transmit f).patches = s.patches := by
  unfold State.transmit; (try split) <;> simp
@[simp] theorem transmit_report (s : State) (f : Frame) : (s.transmit f).report = s.report := by
  unfold State.transmit; (try split) <;> simp
@[simp] theorem transmit_banks (s : State) (f : Frame) : (s.transmit f).banks = s.banks := by
  unfold State.transmit; (try split) <;> simp
@[simp] theorem transmit_agent (s : State) (f : Frame) : (s.transmit f).agent = s.agent := by
  unfold State.transmit; (try split) <;> simp
@[simp] theorem transmit_engine (s : State) (f : Frame) : (s.transmit f).engine = s.engine := by
  unfold State.transmit; (try split) <;> simp
@[simp] theorem transmit_faults (s : State) (f : Frame) : (s.transmit f).faults = s.faults := by
  unfold State.transmit; (try split) <;> simp
@[simp] theorem transmit_pending (s : State) (f : Frame) : (s.transmit f).pending = s.pending := by
  unfold State.transmit; (try split) <;> simp
@[simp] theorem transmit_freeIdx (s : State) (f : Frame) : (s.transmit f).freeIdx = s.freeIdx := by
  unfold State.transmit; (try split) <;> simp

@[simp] theorem countInsertion_forward (s : State) : (s.countInsertion).forward = s.forward := by
  unfold State.countInsertion; (try split) <;> simp
@[simp] theorem countInsertion_tracker (s : State) : (s.countInsertion).tracker = s.tracker := by
  unfold State.countInsertion; (try split) <;> simp
@[simp] theorem countInsertion_now (s : State) : (s.countInsertion).now = s.now := by
  unfold State.countInsertion; (try split) <;> simp
@[simp] theorem countInsertion_intake (s : State) : (s.countInsertion).intake = s.intake := by
  unfold State.countInsertion; (try split) <;> simp
@[simp] theorem countInsertion_burst (s : State) : (s.countInsertion).burst = s.burst := by
  unfold State.countInsertion; (try split) <;> simp
@[simp] theorem countInsertion_triggers (s : State) : (s.countInsertion).triggers = s.triggers := by
  unfold State.countInsertion; (try split) <;> simp
@[simp] theorem countInsertion_channels (s : State) : (s.countInsertion).channels = s.channels := by
  unfold State.countInsertion; (try split) <;> simp
@[simp] theorem countInsertion_watches (s : State) : (s.countInsertion).watches = s.watches := by
  unfold State.countInsertion; (try split) <;> simp
@[simp] theorem countInsertion_trains (s : State) : (s.countInsertion).trains = s.trains := by
  unfold State.countInsertion; (try split) <;> simp
@[simp] theorem countInsertion_timers (s : State) : (s.countInsertion).timers = s.timers := by
  unfold State.countInsertion; (try split) <;> simp
@[simp] theorem countInsertion_outputs (s : State) : (s.countInsertion).outputs = s.outputs := by
  unfold State.countInsertion; (try split) <;> simp
@[simp] theorem countInsertion_inputs (s : State) : (s.countInsertion).inputs = s.inputs := by
  unfold State.countInsertion; (try split) <;> simp
@[simp] theorem countInsertion_patches (s : State) : (s.countInsertion).patches = s.patches := by
  unfold State.countInsertion; (try split) <;> simp
@[simp] theorem countInsertion_report (s : State) : (s.countInsertion).report = s.report := by
  unfold State.countInsertion; (try split) <;> simp
@[simp] theorem countInsertion_banks (s : State) : (s.countInsertion).banks = s.banks := by
  unfold State.countInsertion; (try split) <;> simp
@[simp] theorem countInsertion_agent (s : State) : (s.countInsertion).agent = s.agent := by
  unfold State.countInsertion; (try split) <;> simp
@[simp] theorem countInsertion_engine (s : State) : (s.countInsertion).engine = s.engine := by
  unfold State.countInsertion; (try split) <;> simp
@[simp] theorem countInsertion_faults (s : State) : (s.countInsertion).faults = s.faults := by
  unfold State.countInsertion; (try split) <;> simp
@[simp] theorem countInsertion_counters (s : State) : (s.countInsertion).counters = s.counters := by
  unfold State.countInsertion; (try split) <;> simp
@[simp] theorem countInsertion_pending (s : State) : (s.countInsertion).pending = s.pending := by
  unfold State.countInsertion; (try split) <;> simp
@[simp] theorem countInsertion_freeIdx (s : State) : (s.countInsertion).freeIdx = s.freeIdx := by
  unfold State.countInsertion; (try split) <;> simp

end State

end Sys2Proof.Machine
end

