-- ==== Sys2Proof/Laws/Tab.lean ====
section
/-! SUPPORT. Reading a table after it has been built or changed. -/

namespace Sys2Proof.Tab

variable {α β : Type} {n : Nat}

@[simp] theorem get_ofFn (f : Fin n → α) (i : Fin n) : (ofFn f).get i = f i := by
  simp only [get, ofFn, List.get_eq_getElem, List.getElem_ofFn]; rfl

@[simp] theorem get_replicate (a : α) (i : Fin n) : (replicate n a).get i = a := by simp [get, replicate]

@[simp] theorem get_mapIdx (f : Fin n → α → β) (t : Tab α n) (i : Fin n) : (t.mapIdx f).get i = f i (t.get i) := by
  simp [mapIdx]

@[simp] theorem get_map (f : α → β) (t : Tab α n) (i : Fin n) : (t.map f).get i = f (t.get i) := by simp [map]

theorem get_set (t : Tab α n) (i : Nat) (j : Fin n) (a : α) : (t.set i a).get j = if i = j.val then a else t.get j := by
  simp only [get, set, List.get_eq_getElem, List.getElem_set]; rfl

@[simp] theorem get_set_self (t : Tab α n) (i : Fin n) (a : α) : (t.set i a).get i = a := by simp [get_set]

theorem get_set_ne (t : Tab α n) {i j : Fin n} (a : α) (h : i ≠ j) : (t.set i a).get j = t.get j := by
  simp [get_set, Fin.val_ne_of_ne h]

@[simp] theorem get_modify_self (t : Tab α n) (i : Fin n) (f : α → α) : (t.modify i f).get i = f (t.get i) := by
  simp [modify]

theorem get_modify (t : Tab α n) (i j : Fin n) (f : α → α) : (t.modify i f).get j = if i = j then f (t.get j) else t.get j := by
  by_cases h : i = j
  · subst h; simp
  · simp [modify, get_set_ne, h]

/-- Two tables with the same entries are equal. -/
theorem ext_get {s t : Tab α n} (h : ∀ i, s.get i = t.get i) : s = t := by
  obtain ⟨l, hl⟩ := s; obtain ⟨m, hm⟩ := t
  have : l = m := List.ext_getElem (hl.trans hm.symm) fun k hk _ => by
    have := h ⟨k, hl ▸ hk⟩
    simpa [get] using this
  subst this; rfl

end Sys2Proof.Tab
end

