-- ==== Sys2Proof/Laws/Served.lean ====
section
/-! SUPPORT. What the Agent does with a request that it can take, and what an arriving frame comes to: the lemmas that statements
about requests and frames cite in place of `serve`, `State.answer`, `onFrame` and `State.enter`. -/

namespace Sys2Proof.Machine

variable {s : State} {q : Request} {rest : List Request} {k : Byte} {mine needs : Request → Bool}
  {run : Request → State → State}

/-- A request of a kind other than 02H is no SESSION_CLOSE. -/
theorem isClose_of_kind (h : q.kind? = some k) (hk : k ≠ 0x02#8) : q.isClose = false := by simp [Request.isClose, h, hk]

/-- A request of kind `k` is of the rows of that kind. -/
theorem ofKind_of_kind {n : Nat} (h : q.kind? = some k) (hn : k.toNat = n) : ofKind n q = true := by simp [ofKind, h, hn]

/-- The holder's request that needs the session is executed after its lease has restarted (R167). -/
theorem serve_held (h : s.ReadyHeld q rest k) (hm : mine q = true) (hk : knownKind k = true) (hn : needs q = true) :
    serve mine needs run s
      = run q (s.withAgent { s.agent with inbox := rest, session := s.agent.session.map Session.restart }) := by
  have := h.fresh h.held
  simp [serve, h.head, h.free, h.room, h.sound, h.kind, hm, h.held, this, hk, hn, Agent.restartLease, State.withAgent]

/-- A request that needs no session is executed as it is (R167). -/
theorem serve_open (h : s.Ready q rest k) (hm : mine q = true) (hk : knownKind k = true) (hn : needs q = false) :
    serve mine needs run s = run q (s.withAgent { s.agent with inbox := rest }) := by
  have := h.fresh
  have h2 : (if s.agent.isHolder q then s.agent.duplicate q else none) = none := by split <;> simp_all
  simp [serve, h.head, h.free, h.room, h.sound, h.kind, hm, h2, hk, hn]

/-- A request that needs the session and is not the holder's is answered NO_SESSION (R167). -/
theorem serve_noSession (h : s.Ready q rest k) (hm : mine q = true) (hk : knownKind k = true) (hn : needs q = true)
    (hh : s.agent.isHolder q = false) :
    serve mine needs run s = (s.withAgent { s.agent with inbox := rest }).answer q stNoSession [] := by
  simp [serve, h.head, h.free, h.room, h.sound, h.kind, hm, hh, hk, hn]

/-- A holder's request stays a holder's request when its lease restarts. -/
@[simp] theorem isHolder_restart (g : Agent) (q : Request) (i : List Request) :
    ({ g with inbox := i, session := g.session.map Session.restart } : Agent).isHolder q = g.isHolder q := by
  cases g with | mk session => cases session <;> rfl

/-- The answer to the holder's request, whatever the request has done to the rest of the part. -/
theorem answer_held (h : s.ReadyHeld q rest k) (hk : k ≠ 0x02#8) (t : State)
    (ht : t.agent = { s.agent with inbox := rest, session := s.agent.session.map Session.restart })
    (hf : t.freeIdx = s.freeIdx) (status : Byte) (body : List Byte) :
    t.answer q status body = t.withAgent (s.agent.servedHolder rest (s.responseTo q status body)) := by
  simp [State.answer, ht, h.held, isClose_of_kind h.kind hk, Agent.push, Agent.servedHolder, State.responseTo, State.headerByte,
    hf]

/-- The answer to an open read. -/
theorem answer_open (hk : q.isClose = false) (t : State) (ht : t.agent = { s.agent with inbox := rest }) (hf : t.freeIdx = s.freeIdx) (status : Byte)
    (body : List Byte) : t.answer q status body = t.withAgent (s.agent.servedOpen q rest (s.responseTo q status body)) := by
  have e : ({ s.agent with inbox := rest } : Agent).isHolder q = s.agent.isHolder q := rfl
  simp only [State.answer, ht, Agent.push, Agent.servedOpen, State.responseTo, State.headerByte, hf, e, hk, Bool.not_false,
    Bool.and_true]
  split <;> rfl

/-- Replacing the Agent twice. -/
@[simp] theorem withAgent_withAgent (s : State) (a b : Agent) : (s.withAgent a).withAgent b = s.withAgent b := rfl
theorem withEngine_withAgent (s : State) (a x) : (s.withAgent a).withEngine x = (s.withEngine x).withAgent a := rfl
theorem withBanks_withAgent (s : State) (a x) : (s.withAgent a).withBanks x = (s.withBanks x).withAgent a := rfl
theorem withReport_withAgent (s : State) (a x) : (s.withAgent a).withReport x = (s.withReport x).withAgent a := rfl
theorem withIntake_withAgent (s : State) (a x) : (s.withAgent a).withIntake x = (s.withIntake x).withAgent a := rfl
theorem withTriggers_withAgent (s : State) (a x) : (s.withAgent a).withTriggers x = (s.withTriggers x).withAgent a := rfl
theorem withFaults_withAgent (s : State) (a x) : (s.withAgent a).withFaults x = (s.withFaults x).withAgent a := rfl

/-- A frame that arrives is counted and dealt with by the command of its row. -/
theorem onFrame_arrives {f : Frame} {v : FrameView} {mine : FrameView → Bool} {run : FrameView → State → State}
    (h : s.Arrives f v) (hm : mine v = true) : onFrame f mine run s = run v (s.receive f) := by
  simp [onFrame, h.good, h.up, hm]

/-- A frame's words at a port that is not UP bring no frame (R177). -/
theorem onFrame_not_up {f : Frame} {mine : FrameView → Bool} {run : FrameView → State → State}
    (h : s.link.inbound.state ≠ .up) : onFrame f mine run s = s.hearFrame f := by simp [onFrame, h]

/-- Two runs of good words are one run. -/
theorem PortRt.age_age (r : PortRt) (m n : Nat) : (r.age m).age n = r.age (m + n) := by
  simp only [PortRt.age, PortRt.mk.injEq, true_and]
  induction r.badAges with
  | nil => rfl
  | cons a l ih =>
    by_cases h1 : a + m < 64 <;> by_cases h2 : a + m + n < 64 <;> simp_all [← Nat.add_assoc]
    omega

/-- `n` good words one by one do to an UP port what `hear` does at once (R177). -/
theorem PortRt.foldl_receive_data (r : PortRt) (n : Nat) (h : r.state = .up) :
    (List.replicate (n + 1) LineWord.data).foldl PortRt.receive r = r.hear (n + 1) := by
  have one : ∀ r : PortRt, r.state = .up → r.receive .data = r.age 1 := fun r h => by simp [PortRt.receive, h]
  have up : ∀ (r : PortRt) m, (r.age m).state = r.state := fun _ _ => rfl
  induction n generalizing r with
  | zero => simp [one r h, PortRt.hear, h]
  | succ n ih =>
    rw [List.replicate_succ, List.foldl_cons, one r h, ih _ (by rw [up, h])]
    simp [PortRt.hear, up, h, PortRt.age_age, Nat.add_comm]

/-- A claim that is taken at once and alone. -/
theorem claim_free {take : Request → State → State} (h : s.ClaimFree) : claim take q s = take q s := by
  simp [claim, h.between, h.alone]

/-- The Forward Buffer's room does not change when a frame is received. -/
@[simp] theorem bufferRoom_receive (s : State) (f : Frame) : (s.receive f).bufferRoom = s.bufferRoom := rfl

/-- The Forward Buffer's room does not change with a count. -/
@[simp] theorem bufferRoom_bump (s : State) (c : Counter) : (s.bump c).bufferRoom = s.bufferRoom := rfl

/-- A frame that arrives finds room. -/
theorem State.Arrives.bufferRoom {f : Frame} {v : FrameView} (h : s.Arrives f v) : s.bufferRoom = true := by
  simpa [State.bufferRoom] using h.room

/-- A frame that finds room joins the buffer. -/
theorem enter_room (f : Frame) (h : s.bufferRoom = true) : s.enter f = s.appendFrame f false := by simp [State.enter, h]

/-- A frame that finds room joins the buffer and is then given to another block. -/
theorem enterAnd_room (f : Frame) (given : State → State) (h : s.bufferRoom = true) :
    s.enterAnd f given = given (s.appendFrame f false) := by simp [State.enterAnd, h]

/-- An ordinary event that finds room joins the Intake Queue. -/
theorem offerOrdinary_room (e : Event) (h : s.intake.length < 16) : s.offerOrdinary e = s.withIntake (s.intake ++ [e]) := by
  simp [State.offerOrdinary, State.appendEvent, h]

/-- A record that finds room is admitted. -/
theorem offerRecord_room (st : Stamp) (b : RecordBody) (h : s.report.hasRoom b = true) :
    s.offerRecord st b = s.withReport (s.report.append st b) := by simp [State.offerRecord, h]

/-- Settling a state whose engine did not leave RUNNING changes nothing. -/
theorem settle_of_running (before after : State) (h : after.engine = .running) : settle before after = after := by
  simp [settle, h]

/-- Settling where the engine was not RUNNING changes nothing. -/
theorem settle_of_not_running (before after : State) (h : before.engine ≠ .running) : settle before after = after := by
  simp [settle, h]

end Sys2Proof.Machine
end

