-- ==== Sys2Proof/Laws/Clock.lean ====
section
/-! SUPPORT. What leaves the clock where it is: the requests, the commands of the Outbound port, the events that are due, and the
steps of a burst. A statement about time cites these in place of the commands' definitions. -/

namespace Sys2Proof.Machine

theorem serve_now (s : State) (mine needs : Request → Bool) {run : Request → State → State}
    (h : ∀ q u, (run q u).now = u.now) : (serve mine needs run s).now = s.now := by
  unfold serve
  split
  · rfl
  · split <;> [skip; rfl]
    simp only []
    split
    · simp
    · split <;> [rfl; skip]
      split <;> [simp; skip]
      split <;> [skip; simp [h]]
      split <;> simp [h]

theorem bare_now {run : Request → State → State} (h : ∀ q u, (run q u).now = u.now) (q : Request) (s : State) :
    (bare run q s).now = s.now := by unfold bare; split <;> simp [h]

theorem withTriggerSet_now {run : Request → State → State} (h : ∀ q u, (run q u).now = u.now) (q : Request) (s : State) :
    (withTriggerSet run q s).now = s.now := by
  unfold withTriggerSet
  repeat' split
  all_goals simp [h]

theorem claim_now {take : Request → State → State} (h : ∀ q u, (take q u).now = u.now) (q : Request) (s : State) :
    (claim take q s).now = s.now := by
  unfold claim State.withStopClaim
  repeat' split
  all_goals simp [h]

theorem takeRun_now (q : Request) (s : State) : (takeRun q s).now = s.now := by unfold takeRun; split <;> simp
theorem takeStop_now (q : Request) (s : State) : (takeStop q s).now = s.now := by simp [takeStop]
theorem takeReset_now (q : Request) (s : State) : (takeReset q s).now = s.now := by simp [takeReset]
theorem takeClear_now (q : Request) (s : State) : (takeClear q s).now = s.now := by simp [takeClear]
theorem setTriggers_now (s : State) (l : List Nat) (b : Bool) : (s.setTriggers l b).now = s.now := rfl
theorem takeEnable_now (q : Request) (s : State) : (takeEnable q s).now = s.now := by
  unfold takeEnable; split <;> simp [setTriggers_now]
theorem takeDisable_now (q : Request) (s : State) : (takeDisable q s).now = s.now := by simp [takeDisable, setTriggers_now]
theorem answerRuntime_now (q : Request) (s : State) : (answerRuntime q s).now = s.now := by
  unfold answerRuntime; repeat' split
  all_goals simp
theorem finishCommit_now (q : Request) (s : State) : (finishCommit q s).now = s.now := by simp [finishCommit]

/-- The outcome is a next state with the clock of `s`. -/
def KeepsNow (s : State) (r : Result) : Prop := ∃ t, r = .next t ∧ t.now = s.now

theorem KeepsNow.of {s t : State} (h : t.now = s.now) : KeepsNow s (.next t) := ⟨t, rfl, h⟩

theorem keepsNow_serve (s : State) (mine needs : Request → Bool) {run : Request → State → State}
    (h : ∀ q u, (run q u).now = u.now) : KeepsNow s (.next (serve mine needs run s)) := .of (serve_now s _ _ h)

theorem sessionRequests_now (s : State) : ∀ c ∈ [Instr.sessionOpen, .sessionClose, .statusRead, .engineRun, .engineStop,
    .engineReset, .configClear, .triggerEnable, .triggerDisable], KeepsNow s (exec c s) := by
  simp only [List.forall_mem_cons]
  refine ⟨keepsNow_serve s _ _ (bare_now fun q u => ?_), keepsNow_serve s _ _ (bare_now fun q u => ?_),
    keepsNow_serve s _ _ (bare_now fun q u => ?_), keepsNow_serve s _ _ (bare_now (claim_now takeRun_now)),
    keepsNow_serve s _ _ (bare_now (claim_now takeStop_now)), keepsNow_serve s _ _ (bare_now (claim_now takeReset_now)),
    keepsNow_serve s _ _ (bare_now (claim_now takeClear_now)), keepsNow_serve s _ _ (withTriggerSet_now (claim_now takeEnable_now)),
    keepsNow_serve s _ _ (withTriggerSet_now (claim_now takeDisable_now)), by simp⟩
  · unfold openSession
    simp only []
    repeat' split
    all_goals simp
  · simp [closeSession]
  · simp [readStatus]

theorem bankRequests_now (s : State) : ∀ c ∈ [Instr.tableWrite, .tableRead, .commit, .commitAbort, .triggerFire, .runtimeRead],
    KeepsNow s (exec c s) := by
  simp only [List.forall_mem_cons]
  refine ⟨keepsNow_serve s _ _ fun q u => ?_, keepsNow_serve s _ _ fun q u => ?_, keepsNow_serve s _ _ (bare_now fun q u => ?_),
    keepsNow_serve s _ _ (bare_now fun q u => ?_), keepsNow_serve s _ _ (withTriggerSet_now fun q u => ?_),
    keepsNow_serve s _ _ fun q u => ?_, by simp⟩
  · unfold writeTable
    repeat' split
    all_goals simp
  · unfold readTable
    repeat' split
    all_goals simp
  · unfold commitStaging acceptCommit
    repeat' split
    all_goals simp [finishCommit_now]
  · unfold abortCommit State.dropCarry
    split <;> simp
  · unfold fireTriggers
    repeat' split
    all_goals simp
  · unfold readRuntime
    split
    · exact claim_now answerRuntime_now q u
    · exact answerRuntime_now q u

theorem reportRequests_now (s : State) : ∀ c ∈ [Instr.reportAck, .reportRead, .reportResume, .faultRead, .faultClear,
    .counterRead, .counterReadClear], KeepsNow s (exec c s) := by
  simp only [List.forall_mem_cons]
  refine ⟨keepsNow_serve s _ _ fun q u => ?_, keepsNow_serve s _ _ fun q u => ?_, keepsNow_serve s _ _ (bare_now fun q u => ?_),
    keepsNow_serve s _ _ (bare_now fun q u => ?_), keepsNow_serve s _ _ fun q u => ?_, keepsNow_serve s _ _ fun q u => ?_,
    keepsNow_serve s _ _ fun q u => ?_, by simp⟩
  · unfold ackReport
    repeat' split
    all_goals simp
  · unfold readReport
    repeat' split
    all_goals simp
  · unfold resumeReport
    split <;> simp
  · simp [readFaults]
  · unfold clearFaults
    repeat' split
    all_goals simp
  · unfold readCounters
    split <;> simp
  · simp [readAndClearCounters, State.clearCounters]

/-- A request leaves the clock where it is. -/
theorem requestCommand_now (q : Request) (s : State) : KeepsNow s (exec (requestCommand q) s) := by
  have a := sessionRequests_now s
  have b := bankRequests_now s
  have c := reportRequests_now s
  simp only [List.forall_mem_cons] at a b c
  obtain ⟨a1, a2, a3, a4, a5, a6, a7, a8, a9, -⟩ := a
  obtain ⟨b1, b2, b3, b4, b5, b6, -⟩ := b
  obtain ⟨c1, c2, c3, c4, c5, c6, c7, -⟩ := c
  unfold requestCommand
  generalize (q.kind?.map BitVec.toNat).getD 0 = n
  split <;> first | assumption | (split <;> assumption)

theorem forwardRelease_now (s : State) : KeepsNow s (exec .forwardRelease s) := by
  refine .of ?_
  repeat' split
  all_goals simp

theorem insertionStart_now (s : State) : KeepsNow s (exec .insertionStart s) := by
  refine .of ?_
  repeat' split
  all_goals simp

theorem trackerTimeout_now (s : State) : KeepsNow s (exec .trackerTimeout s) := by
  refine .of ?_
  split
  · unfold State.trackerExpires State.enterMissing
    split <;> simp
  · rfl

theorem reportTimeout_now (s : State) : KeepsNow s (exec .reportTimeout s) := by
  refine .of ?_
  unfold State.reportTimesOut
  simp only []
  repeat' split
  all_goals simp

theorem leaseExpiry_now (s : State) : KeepsNow s (exec .sessionLeaseExpiry s) := by
  refine .of ?_
  split <;> simp

theorem inputEdgeAccept_now (k : Fin 4) (s : State) : KeepsNow s (exec (.inputEdgeAccept k) s) := by
  refine .of ?_
  split <;> simp

theorem settle_now (s t : State) (h : t.now = s.now) : (settle s t).now = s.now := by
  unfold settle
  split <;> simp [h]

theorem act_now {s u : State} {t : Fin 48} {e : ActionEntry} (h : act t e s = some u) : u.now = s.now := by
  unfold act at h
  split at h
  · simp only [actPulse, Option.map_eq_some_iff] at h; obtain ⟨_, -, rfl⟩ := h; rfl
  · simp only [actLevel, Option.map_eq_some_iff] at h; obtain ⟨_, -, rfl⟩ := h; rfl
  · unfold actPatch at h
    split at h <;> [skip; cases h]
    cases h
    split <;> simp
  · simp only [actUnpatch, Option.map_eq_some_iff] at h; obtain ⟨_, -, rfl⟩ := h; rfl
  · simp only [actCapture, Option.map_eq_some_iff] at h; obtain ⟨_, -, rfl⟩ := h; simp
  · cases h; simp
  · unfold actThreshold at h
    split at h <;> [cases h; skip]
    simp only [] at h
    split at h <;> [cases h; skip]
    split at h <;> cases h
    unfold State.reevaluate
    simp only []
    repeat' split
    all_goals simp
  · unfold actRebase at h
    split at h <;> [cases h; skip]
    simp only [Option.map_eq_some_iff] at h
    obtain ⟨_, -, rfl⟩ := h
    rfl
  · unfold actTrainStart at h
    split at h <;> [cases h; skip]
    simp only [Option.map_eq_some_iff] at h
    obtain ⟨_, -, rfl⟩ := h
    simp
  · simp only [actTrainStop, Option.map_eq_some_iff] at h
    obtain ⟨_, -, rfl⟩ := h
    split <;> simp
  · simp only [actTimerStart, Option.map_eq_some_iff] at h; obtain ⟨_, -, rfl⟩ := h; rfl
  · simp only [actTimerStop, Option.map_eq_some_iff] at h; obtain ⟨_, -, rfl⟩ := h; rfl
  · simp only [actTimerCapture, Option.map_eq_some_iff] at h; obtain ⟨_, -, rfl⟩ := h; simp
  · simp only [actArm, Option.map_eq_some_iff] at h; obtain ⟨_, -, rfl⟩ := h; rfl
  · simp only [actArm, Option.map_eq_some_iff] at h; obtain ⟨_, -, rfl⟩ := h; rfl

theorem runAction_now (s : State) (t : Fin 48) (i : Nat) : (s.runAction t i).now = s.now := by
  unfold State.runAction
  split
  · rename_i h
    obtain ⟨e, -, he⟩ := Option.bind_eq_some_iff.mp h
    exact act_now he
  · simp

theorem stepFiring_now (s : State) (b : Burst) (f : Firing) : (s.stepFiring b f).now = s.now := by
  unfold State.stepFiring
  repeat' split
  all_goals simp [runAction_now]

theorem serveClaims_now (s : State) : s.serveClaims.now = s.now := by
  have held : ∀ u : State, u.takeHeld.now = u.now := fun u => by
    unfold State.takeHeld
    split <;> [skip; rfl]
    rename_i q _
    split <;> [skip; rfl]
    rename_i take h
    obtain ⟨k, -, hk⟩ := Option.bind_eq_some_iff.mp h
    have taken : ∀ v : State, (take q v).now = v.now := fun v => by
      unfold claimOf at hk
      split at hk <;> cases hk
      · exact takeRun_now q v
      · exact takeStop_now q v
      · exact takeReset_now q v
      · exact takeClear_now q v
      · exact takeEnable_now q v
      · exact takeDisable_now q v
      · exact answerRuntime_now q v
    simp [taken]
  unfold State.serveClaims State.withStopClaim
  repeat' split
  all_goals simp [held]

/-- A step of a burst inside a firing leaves the clock where it is. -/
theorem burstStep_now {s : State} (h : s.midFiring = true) : s.burstStep.now = s.now := by
  rw [State.burstStep, serveClaims_now]
  unfold State.burstWork
  unfold State.midFiring at h
  split at h <;> [skip; cases h]
  rename_i b hb
  obtain ⟨f, hf⟩ := Option.isSome_iff_exists.mp h
  simp only [hb, hf]
  exact settle_now s _ (stepFiring_now s b f)

end Sys2Proof.Machine
end

