-- ==== Sys2Proof/Laws/Closes.lean ====
section
/-! SUPPORT. What raising a fault, dropping an event and a close of the tracker come to, said once: the lemmas that statements
about closes, full queues and a full Forward Buffer cite in place of `State.raiseFault`, `State.offerCycle` and
`State.closeSegment`. -/

namespace Sys2Proof.Machine

/-- `u` has the report timer, the Agent and the banks of `s`: what comes between a close and what it counts. -/
structure State.KeepsClock (s u : State) : Prop where
  timer : u.report.timer = s.report.timer
  due : u.report.timeoutDue = s.report.timeoutDue
  agent : u.agent = s.agent
  banks : u.banks = s.banks

theorem State.KeepsClock.refl (s : State) : s.KeepsClock s := ⟨rfl, rfl, rfl, rfl⟩

theorem State.KeepsClock.trans {s u v : State} (a : s.KeepsClock u) (b : u.KeepsClock v) : s.KeepsClock v :=
  ⟨b.timer.trans a.timer, b.due.trans a.due, b.agent.trans a.agent, b.banks.trans a.banks⟩

theorem offerRecord_keepsClock (s : State) (st : Stamp) (b : RecordBody) : s.KeepsClock (s.offerRecord st b) := by
  refine ⟨?_, ?_, by simp, by simp⟩ <;>
  · unfold State.offerRecord
    split
    · rfl
    · unfold State.lose
      simp only []
      split
      · rfl
      · unfold State.offerLoss State.disarmFor
        simp only []
        split <;> split <;> rfl

theorem raiseFault_keepsClock (s : State) (k : Fin 6) (d : Nat) : s.KeepsClock (s.raiseFault k d) := by
  have raw : s.KeepsClock (s.raiseRaw k d) := by
    have disarm : ∀ v : State, v.KeepsClock (v.disarmFor k) := fun v => by
      unfold State.disarmFor; split <;> exact ⟨rfl, rfl, rfl, rfl⟩
    have set : s.KeepsClock (s.setFault k) := ⟨rfl, rfl, rfl, rfl⟩
    unfold State.raiseRaw
    refine State.KeepsClock.trans ?_ (disarm _)
    split
    · exact set
    · exact set.trans (offerRecord_keepsClock _ _ _)
  refine raw.trans ?_
  unfold State.raiseFault settle
  split
  · exact ⟨by simp, by simp, by simp, by simp⟩
  · exact .refl _

theorem dropEvent_keepsClock (s : State) (e : Event) : s.KeepsClock (s.dropEvent e) := by
  have raised := State.KeepsClock.trans (show s.KeepsClock (s.bump .intakeDrop) from ⟨rfl, rfl, rfl, rfl⟩)
    (raiseFault_keepsClock _ eventOverrun e.code)
  exact raised.trans ⟨by simp [State.dropEvent], by simp [State.dropEvent], by simp [State.dropEvent], by simp [State.dropEvent]⟩

theorem offerCycle_keepsClock (s : State) (e : Event) : s.KeepsClock (s.offerCycle e) := by
  unfold State.offerCycle
  split
  · exact ⟨rfl, rfl, rfl, rfl⟩
  · split
    · rename_i d l _
      have := State.KeepsClock.trans (show s.KeepsClock (s.withIntake l) from ⟨rfl, rfl, rfl, rfl⟩) (dropEvent_keepsClock _ d)
      exact ⟨this.timer, this.due, this.agent, this.banks⟩
    · exact dropEvent_keepsClock s e

theorem overrun_keepsClock (s : State) (f : Frame) : s.KeepsClock (s.overrun f) := by
  have := State.KeepsClock.trans (show s.KeepsClock (s.bump .forwardDiscard) from ⟨rfl, rfl, rfl, rfl⟩)
    (raiseFault_keepsClock _ forwardOverrun (s.sourceByte f).toNat)
  exact this.trans ⟨rfl, rfl, rfl, rfl⟩

/-- What a close counts is counted also where other work comes before or after it. -/
theorem State.CountsClose.between {s s1 t1 t : State} (a : s.KeepsClock s1) (c : s1.CountsClose t1) (b : t1.KeepsClock t) :
    s.CountsClose t :=
  ⟨by rw [b.timer, c.timer, a.timer], by rw [b.due, c.due, a.timer, a.due, a.banks], by rw [b.agent, c.agent, a.agent, a.banks]⟩

theorem advanceClose_countsClose (s : State) : s.CountsClose s.advanceClose := by
  refine ⟨?_, ?_, rfl⟩ <;>
    simp only [State.advanceClose, State.report_withAgent, State.report_withReport, Report.countClose] <;> split <;> rename_i h <;>
    simp [h]

/-- The end of the PROCESS segment counts as one close (R130, R171, R186). -/
theorem closeSegment_countsClose (s : State) : s.CountsClose s.closeSegment := by
  unfold State.closeSegment
  simp only []
  refine State.CountsClose.between ?_ (advanceClose_countsClose _) (.refl _)
  exact State.KeepsClock.trans (show s.KeepsClock ((s.withTracker { s.tracker with state := .locked .openSeg }).withLink
    { s.link with budget := s.banks.active.settings.insertionBudget, inserted := 0 }) from ⟨rfl, rfl, rfl, rfl⟩)
    (offerCycle_keepsClock _ _)

/-- What `takeNewest` takes: the newest ordinary event, or none when there is none (R6). -/
theorem takeNewest_spec (l : List Event) :
    (∀ d l', takeNewest l = some (d, l') →
      ∃ a b, l = a ++ d :: b ∧ d.ordinary = true ∧ (∀ e ∈ b, e.ordinary = false) ∧ l' = a ++ b)
    ∧ (takeNewest l = none → ∀ e ∈ l, e.ordinary = false) := by
  induction l with
  | nil => simp [takeNewest]
  | cons e l ih =>
    unfold takeNewest
    split
    · rename_i d l' h
      refine ⟨fun d2 l2 h2 => ?_, by simp⟩
      simp only [Option.some.injEq, Prod.mk.injEq] at h2
      obtain ⟨rfl, rfl⟩ := h2
      obtain ⟨a, b, h3, h4, h5, h6⟩ := ih.1 d l' h
      exact ⟨e :: a, b, by simp [h3], h4, h5, by simp [h6]⟩
    · rename_i h
      split
      · rename_i ho
        refine ⟨fun d2 l2 h2 => ?_, by simp⟩
        simp only [Option.some.injEq, Prod.mk.injEq] at h2
        obtain ⟨rfl, rfl⟩ := h2
        exact ⟨[], l, rfl, ho, ih.2 h, rfl⟩
      · rename_i ho
        exact ⟨by simp, fun _ => by simpa [ho] using ih.2 h⟩

/-- How a cycle event joins the Intake Queue (R4, R6). -/
theorem offerCycle_joins (s : State) (x : Event) : cycleEventJoins s.intake x (s.offerCycle x).intake := by
  unfold State.offerCycle cycleEventJoins
  split
  · rename_i h; exact .inl ⟨h, rfl⟩
  · rename_i h
    have h : 16 ≤ s.intake.length := by simpa [Config.intakeSize] using h
    split
    · rename_i d l hd
      obtain ⟨a, b, h1, h3, h4, h2⟩ := (takeNewest_spec s.intake).1 d l hd
      exact .inr (.inl ⟨h, a, d, b, h1, h3, h4, by simp [State.appendEvent, h2]⟩)
    · rename_i hd
      exact .inr (.inr ⟨h, (takeNewest_spec s.intake).2 hd, by simp⟩)

theorem counter_bump_self (s : State) (c : Counter) : (s.bump c).counter c = satInc 4294967295 (s.counter c) := by
  simp [State.counter, State.bump, State.bumpBy, satInc, satAdd]

theorem counter_bump_ne (s : State) {c d : Counter} (h : d ≠ c) : (s.bump d).counter c = s.counter c := by
  have : d.code ≠ c.code := by cases d <;> cases c <;> first | exact absurd rfl h | decide
  simp [State.counter, State.bump, State.bumpBy, Tab.get_modify, this]

/-- Raising a fault moves no counter but REPORT_LOST (R122, R158). -/
theorem counter_raiseFault (s : State) (k : Fin 6) (d : Nat) {c : Counter} (hc : c ≠ .reportLost) :
    (s.raiseFault k d).counter c = s.counter c := by
  have disarm : ∀ (v : State) j, (v.disarmFor j).counter c = v.counter c := fun v j => by
    unfold State.disarmFor; split <;> rfl
  have loss : ∀ v : State, v.countLoss.counter c = v.counter c := fun v => counter_bump_ne v hc.symm
  have set : ∀ (v : State) j, (v.setFault j).counter c = v.counter c := fun _ _ => rfl
  have offer : ∀ (v : State) st b, (v.offerRecord st b).counter c = v.counter c := by
    intro v st b
    unfold State.offerRecord
    split
    · rfl
    · unfold State.lose
      simp only []
      split
      · exact loss v
      · unfold State.offerLoss
        simp only []
        rw [disarm]
        split
        · exact (set v.countLoss reportLoss).trans (loss v)
        · rw [loss, set, loss]
  have raw : (s.raiseRaw k d).counter c = s.counter c := by
    unfold State.raiseRaw
    simp only []
    rw [disarm]
    split
    · rfl
    · rw [offer, set]
  unfold State.raiseFault settle
  split
  · rw [← raw]; simp [State.counter]
  · exact raw

/-- A frame given to a full Forward Buffer is discarded before or after the other block's work, in a free order (R180, R182). -/
theorem enterAnd_full (s : State) (f : Frame) (given : State → State) (h : s.bufferRoom = false) :
    s.enterAnd f given = given (s.overrun f) ∨ s.enterAnd f given = (given s).overrun f := by
  unfold State.enterAnd
  rw [if_neg (by simp [h])]
  split
  · exact .inl rfl
  · exact .inr rfl

/-- Marking several frames releasable at once (R4, R19). -/
theorem foldl_release (l : List Nat) (w : Forward) : l.foldl Forward.release w
    = { w with frames := w.frames.map fun f => if f.id ∈ l then { f with held := false } else f } := by
  induction l generalizing w with
  | nil => simp
  | cons a l ih =>
    rw [List.foldl_cons, ih]
    simp only [Forward.release, List.map_map, Forward.mk.injEq, and_true]
    apply List.map_congr_left
    intro f _
    by_cases h : f.id = a <;> by_cases h' : f.id ∈ l <;> simp [h, h']

/-- What channels that take new records do to themselves, their watches and their trains (R71 to R73, R87). -/
theorem settleChannels_units (s : State) (f : ChannelEntry → ChannelRt → ChannelRt) (i : Fin 32) :
    let u := (s.settleChannels f).1
    let e := s.banks.active.channels.get i
    let a := if e.valid then f e (s.channels.get i) else s.channels.get i
    u.channels.get i = a ∧ ((a.isStale && !(s.channels.get i).isStale) = true → s.LosesUnitsOf u i)
      ∧ ((a.isStale && !(s.channels.get i).isStale) = false → s.KeepsUnitsOf u i) := by
  intro u e a
  refine ⟨by simp [u, a, e, State.settleChannels, State.haltTrains, State.forgetWatches], fun h => ⟨fun w hw => ?_, fun k hk => ?_⟩,
    fun h => ⟨fun w hw => ?_, fun k hk => ?_⟩⟩
  all_goals
    simp only [u, State.settleChannels, State.haltTrains, State.forgetWatches, State.banks_withWatches, State.banks_withChannels,
      State.watches_withTrains, State.watches_withWatches, State.trains_withTrains, State.trains_withWatches,
      State.trains_withChannels, State.watches_withChannels, Tab.get_mapIdx]
    first | rw [hw] | rw [hk]
    simp only [a, e] at h
    simp [h, WatchRt.forget, TrainRt.halt]

end Sys2Proof.Machine
end

