-- ==== Sys2Proof/Laws/Pending.lean ====
section
/-! SUPPORT. What the operations that add entries to the pending-firing list come to, said once as `State.Pends`: the lemmas that
statements about bursts and derived events cite in place of `State.addEntries`, `State.addProducts` and `State.derive`. -/

namespace Sys2Proof.Machine

variable {s u v : State} {b : Burst}

/-- The things of a list of products, one by one. -/
def Products.things (l : Products) : List Thing := l.flatMap fun x => List.replicate x.2 x.1

/-- Saturating sums add up. -/
theorem satAdd_satAdd (max n j k : Nat) : satAdd max (satAdd max n j) k = satAdd max n (j + k) := by
  simp only [satAdd]; omega

/-- Adding no entries changes nothing. -/
theorem State.Pends.refl (h : s.burst = some b) : s.Pends s b [] := ⟨by simp [h], by simp, by simp⟩

/-- Entries added after entries are entries added at once. -/
theorem State.Pends.trans {l m : List Entry} (h : s.Pends u b l) (h' : ∀ c, u.burst = some c → u.Pends v c m) :
    s.Pends v b (l ++ m) := by
  have h2 := h' _ h.burst
  have room : 64 - (b.pending ++ l.take (64 - b.pending.length)).length = 64 - b.pending.length - l.length := by
    simp only [List.length_append, List.length_take]; omega
  refine ⟨?_, fun t => ?_, ?_⟩
  · rw [h2.burst]; simp only [room, List.take_append, List.append_assoc]
  · have e1 := h.merged t
    have e2 := h2.merged t
    simp only [room] at e1 e2
    simp only [List.drop_append, List.countP_append]
    generalize List.countP (fun x => decide (x.trigger = t)) (List.drop (64 - b.pending.length) l) = j at *
    generalize List.countP (fun x => decide (x.trigger = t)) (List.drop (64 - b.pending.length - l.length) m) = k at *
    rw [e2, e1]
    by_cases hj : j = 0 <;> by_cases hk : k = 0 <;> simp [hj, hk, satAdd_satAdd]
  · have e1 := h.counter
    have e2 := h2.counter
    simp only [room] at e1 e2
    simp only [List.drop_append, List.length_append]
    generalize (List.drop (64 - b.pending.length) l).length = j at *
    generalize (List.drop (64 - b.pending.length - l.length) m).length = k at *
    rw [e2, e1]
    by_cases hj : j = 0 <;> by_cases hk : k = 0 <;> simp [hj, hk, satAdd_satAdd]

/-- Entries of one trigger for one thing. -/
theorem addEntries_pends (h : s.burst = some b) (e : Entry) (n : Nat) : s.Pends (s.addEntries e n) b (List.replicate n e) := by
  have size : Config.pendingSize = 64 := rfl
  simp only [State.addEntries, h, size]
  constructor
  · split <;> simp [State.countMerged, min_comm]
  · intro t
    have hn : n - min n (64 - b.pending.length) = n - (64 - b.pending.length) := by omega
    simp only [List.drop_replicate, List.countP_replicate]
    split
    · rename_i hlt
      simp only [State.countMerged, State.bumpBy, State.triggers_withCounters, State.triggers_withTriggers, Tab.get_modify,
        State.triggers_withBurst, hn]
      by_cases ht : e.trigger = t <;> simp [ht]
      intro h0; omega
    · rename_i hlt
      have : n - (64 - b.pending.length) = 0 := by omega
      simp [this]
  · have hn : n - min n (64 - b.pending.length) = n - (64 - b.pending.length) := by omega
    simp only [List.drop_replicate, List.length_replicate]
    split
    · rename_i hlt
      have : n - (64 - b.pending.length) ≠ 0 := by omega
      simp [State.countMerged, State.counter, State.bumpBy, hn, this]
    · rename_i hlt
      have : n - (64 - b.pending.length) = 0 := by omega
      simp [this, State.counter]

/-- The entries of one trigger for the things it matches. -/
theorem addMatches_pends (l : Products) (t : Fin 48) : ∀ {s : State} {b : Burst}, s.burst = some b →
    s.Pends (s.addMatches l t) b
      ((l.things.filter fun x => (s.banks.active.triggers.get t).accepts x).map fun x => ⟨t, x.kind, x.index⟩) := by
  induction l with
  | nil => intro s b h; exact .refl h
  | cons x l ih =>
    intro s b h
    have hs : s.addMatches (x :: l) t = (if (s.banks.active.triggers.get t).accepts x.1 then
      s.addEntries ⟨t, x.1.kind, x.1.index⟩ x.2 else s).addMatches l t := rfl
    have ht : Products.things (x :: l) = List.replicate x.2 x.1 ++ Products.things l := rfl
    rw [hs, ht, List.filter_append, List.map_append]
    split
    · rename_i ha
      have : ((List.replicate x.2 x.1).filter fun y => (s.banks.active.triggers.get t).accepts y).map
          (fun y => (⟨t, y.kind, y.index⟩ : Entry)) = List.replicate x.2 ⟨t, x.1.kind, x.1.index⟩ := by
        simp [ha]
      rw [this]
      refine (addEntries_pends h _ _).trans fun c hc => ?_
      simpa using ih hc
    · rename_i ha
      have : ((List.replicate x.2 x.1).filter fun y => (s.banks.active.triggers.get t).accepts y) = [] := by
        simp [ha]
      rw [this]
      simpa using ih h

/-- The entries of things produced together. -/
theorem addProducts_pends (h : s.burst = some b) (l : Products) : s.Pends (s.addProducts l) b (s.entriesOf l.things) := by
  suffices H : ∀ (ts : List (Fin 48)) {s : State} {b : Burst}, s.burst = some b →
      s.Pends (overList (fun s t => s.addMatches l t) s ts) b (ts.flatMap fun t =>
        (l.things.filter fun x => (s.banks.active.triggers.get t).accepts x).map fun x => ⟨t, x.kind, x.index⟩) from
    H _ h
  intro ts
  induction ts with
  | nil => intro s b h; exact .refl h
  | cons t ts ih =>
    intro s b h
    rw [List.flatMap_cons]
    refine (addMatches_pends l t h).trans fun c hc => ?_
    have := ih hc
    rw [State.addMatches_banks] at this
    exact this

/-- A derived event. -/
theorem derive_pends (h : s.burst = some b) (x : Thing) : s.Pends (s.derive x) b (s.entriesOf [x]) := by
  simpa [State.derive, Products.things] using addProducts_pends h [(x, 1)]

end Sys2Proof.Machine
end

