-- ==== Sys2Proof/WellFormed.lean ====
section
/-! DEFINITION. Which commands are well formed: a frame row carries a frame of its row, as far as that can be told without the
part's state (the station address, the tracker). -/

namespace Sys2Proof

/-- The frame passes its check test and its fields meet `p`. -/
def goodFrameWith (p : Machine.FrameView → Bool) (f : Frame) : Bool :=
  match Machine.goodFrame f with
  | some v => p v
  | none => false

/-- A frame row's bytes are of the row (R179, R180); a command of another row has nothing to check. -/
def Instr.wf : Instr → Bool
  | .cycleStartFrame f => goodFrameWith (fun v => v.kind == Machine.kindCycleStart) f
  | .cycleCloseFrame f => goodFrameWith (fun v => v.kind == Machine.kindCycleClose) f
  | .processFrame f => goodFrameWith (fun v => v.kind == Machine.kindProcess) f
  | .managementFrame f =>
      goodFrameWith (fun v => v.kind == Machine.kindManagement && v.dest != 0#8 && v.dest != 255#8) f
  | .broadcastManagementFrame f => goodFrameWith (fun v => v.kind == Machine.kindManagement && v.dest == 255#8) f
  | .ownFrameReturn f =>
      goodFrameWith (fun v => (v.kind == Machine.kindManagement || v.kind == Machine.kindMarker) && v.source != 0#8
        && v.source != 255#8) f
  | .otherFrame f => goodFrameWith (fun _ => true) f
  | .failedCheckFrame f => (Machine.goodFrame f).isNone
  | .deviceReset _ _ | .portSignalDetect _ | .portAligned _ _ | .portSignalLoss _ | .portBadWordLimit _ _
  | .forwardRelease | .insertionStart | .trackerTimeout | .reportTimeout | .sessionLeaseExpiry | .timerExpiry _
  | .pulseEnd _ | .inputPinChange _ _ | .inputEdgeAccept _ | .takeFrameEvent _ | .takeInputEdge _ | .takeTimerExpiry _
  | .takeCycleStart _ | .takeCycleClose _ | .takeCycleLost _ | .takeFireRequest _ | .sessionOpen | .sessionClose
  | .statusRead | .tableWrite | .tableRead | .commit | .commitAbort | .engineRun | .engineStop | .engineReset
  | .configClear | .triggerEnable | .triggerDisable | .triggerFire | .runtimeRead | .reportAck | .reportRead
  | .reportResume | .faultRead | .faultClear | .counterRead | .counterReadClear => true

end Sys2Proof
end

