-- ==== Sys2Proof/Tests/Slice0.lean ====
section
/-! SUPPORT. The author's tests: ill-formed commands that the check refuses, a witness for the hypotheses of each statement, and
single steps with values worked out from the spec. -/

namespace Sys2Proof.Tests

set_option Elab.async false

open Sys2Proof.Machine

/-! Frames and states that the tests share. -/

def stamp : Stamp := ⟨5#16, 40⟩

def start (n : BitVec 16) (period : Nat) : Frame := buildFrame kindCycleStart 3#8 0#8 n (beBytes 2 period)
def close (n : BitVec 16) : Frame := buildFrame kindCycleClose 3#8 0#8 n []
def process (body : List Byte) : Frame := buildFrame kindProcess 2#8 0#8 5#16 body
def management (source dest : Byte) (body : List Byte) : Frame := buildFrame kindManagement source dest 5#16 body
def view (kind source dest : Byte) (n : BitVec 16) (body : List Byte) : FrameView :=
  ⟨kind, source, dest, n, body.length, body, crc ([kind, source, dest] ++ beBytes 2 n.toNat ++ beBytes 2 body.length ++ body)⟩

/-- Both ports UP, station 1. -/
def up : State := State.reset.withLink { inbound := { state := .up }, outbound := { state := .up }, address := 1#8 }

/-- The tracker in a state, at cycle 5 with period 125. -/
def track (k : TrackerState) : State := up.withTracker { state := k, ref := some ⟨5#16, 125⟩, timeoutAt := some 0 }

/-- The ACTIVE bank replaced. -/
def withActive (b : Bank) (s : State) : State := s.withBanks { s.banks with active := b }

/-- A bank with channel 3 and trigger 7 valid: the channel follows slot 0 of station 2, the trigger waits for input 1. -/
def bank : Bank :=
  { Bank.empty with
    channels := Bank.empty.channels.set 3 { valid := true, station := 2#8 }
    triggers := Bank.empty.triggers.set 7 { valid := true, kind := .inputEdge, index := 1, startsArmed := true } }

/-- A record that waits. -/
def record : Record := ⟨0#32, ⟨0#16, 0⟩, none, .mark 0 0 0#48, none⟩

/-- A sample of 6 units. -/
def sample : Sample := ⟨6#48, 6#32, 2#32, 4#48⟩

/-- A frame in the Forward Buffer. -/
def buffered (id : Nat) (held : Bool) : BufFrame := ⟨id, process (beBytes 4 9), held, 4#48⟩

/-! Well-formedness: what the check refuses, and what it lets through. -/

theorem test_wf_start : (Instr.cycleStartFrame (start 6#16 125)).wf = true := by decide +kernel
theorem test_wf_start_kind : (Instr.cycleStartFrame (close 6#16)).wf = false := by decide +kernel
theorem test_wf_close : (Instr.cycleCloseFrame (close 6#16)).wf = true := by decide +kernel
theorem test_wf_close_kind : (Instr.cycleCloseFrame (start 6#16 125)).wf = false := by decide +kernel
theorem test_wf_process : (Instr.processFrame (process (beBytes 4 9))).wf = true := by decide +kernel
theorem test_wf_process_kind : (Instr.processFrame (close 6#16)).wf = false := by decide +kernel
theorem test_wf_process_check : (Instr.processFrame ((process (beBytes 4 9)).set 9 77#8)).wf = false := by decide +kernel
theorem test_wf_management : (Instr.managementFrame (management 9#8 1#8 [])).wf = true := by decide +kernel
theorem test_wf_management_dest : (Instr.managementFrame (management 9#8 255#8 [])).wf = false
    ∧ (Instr.managementFrame (management 9#8 0#8 [])).wf = false := by decide +kernel
theorem test_wf_broadcast : (Instr.broadcastManagementFrame (management 9#8 255#8 [])).wf = true
    ∧ (Instr.broadcastManagementFrame (management 9#8 1#8 [])).wf = false := by decide +kernel
theorem test_wf_own : (Instr.ownFrameReturn (management 1#8 9#8 [])).wf = true
    ∧ (Instr.ownFrameReturn (management 0#8 9#8 [])).wf = false
    ∧ (Instr.ownFrameReturn (management 255#8 9#8 [])).wf = false
    ∧ (Instr.ownFrameReturn (process (beBytes 4 9))).wf = false := by decide +kernel
theorem test_wf_other : (Instr.otherFrame (buildFrame 0x33#8 2#8 0#8 5#16 [])).wf = true
    ∧ (Instr.otherFrame [1#8, 2#8]).wf = false := by decide +kernel
theorem test_wf_failed : (Instr.failedCheckFrame [1#8, 2#8]).wf = true
    ∧ (Instr.failedCheckFrame (close 6#16)).wf = false := by decide +kernel

/-! The check of R179: its value over the nine digits. -/

theorem test_crc : crc ((List.range 9).map fun k => BitVec.ofNat 8 (0x31 + k)) = 0xFC891918#32 := by decide +kernel

/-! Witnesses: link, tracker, time and pins. -/

theorem test_front_command : (State.reset.withPending [.forwardRelease]).pending = .forwardRelease :: [] := rfl

theorem test_port_down (p : Port) : (State.reset.port p).state = .down := by cases p <;> rfl
theorem test_port_aligning (p : Port) : ∀ n ∈ [0, 15],
    ((State.reset.withPort p { state := .aligning, idleRun := n }).port p).state = .aligning
    ∧ ((State.reset.withPort p { state := .aligning, idleRun := n }).port p).idleRun = n := by
  cases p <;> decide +kernel
theorem test_ports_up : up.link.outbound.state = .up ∧ up.link.inbound.state = .up := ⟨rfl, rfl⟩
theorem test_bad_words : up.link.outbound.badAges = [] ∧ ∀ n ∈ [60, 61],
    (match exec (.portBadWordLimit .outbound ([.bad, .bad, .bad] ++ List.replicate n .data ++ [.bad])) up with
      | .next u => u.link.outbound.state | _ => .aligning) = (if n = 60 then .down else .up) := by decide +kernel
/-- The words of a frame set an ALIGNING port's idle words back, whatever the frame is. -/
theorem test_frame_at_aligning :
    let s := State.reset.withPort .inbound { state := .aligning, idleRun := 15 }
    s.link.inbound.state = .aligning ∧ ∀ f, (match exec (.otherFrame f) s with | .next u => u.link.inbound.idleRun | _ => 1) = 0 :=
  ⟨rfl, fun _ => rfl⟩
theorem test_inbound_loss : ∀ k ∈ [TrackerState.unlocked, .acquiring, .locked .process, .locked .openSeg, .missing, .lost],
    let s := (track k).withEngine .running
    s.link.inbound.state = .up ∧ s.tracker.state = k ∧ s.engine = .running ∧ s.inDisarmSet linkDown = true := by decide +kernel

theorem start_arrives (k : TrackerState) : (track k).Arrives (start 6#16 125) (view kindCycleStart 3#8 0#8 6#16 (beBytes 2 125)) :=
  ⟨rfl, by decide +kernel, Nat.zero_lt_succ _⟩
theorem test_start_period : startPeriod (view kindCycleStart 3#8 0#8 6#16 (beBytes 2 125)) = some 125
    ∧ startPeriod (view kindCycleStart 3#8 0#8 6#16 (beBytes 2 65535)) = some 65535
    ∧ startPeriod (view kindCycleStart 3#8 0#8 6#16 (beBytes 2 124)) = none := by decide +kernel
theorem test_start_states : ∀ k ∈ [TrackerState.locked .process, .locked .openSeg, .missing],
    (track k).tracker.state = k ∧ (track k).tracker.ref = some ⟨5#16, 125⟩ ∧ (track k).tracker.ordinal.toNat + 2 < 2 ^ 48 := by
  decide +kernel

theorem close_arrives (k : TrackerState) : (track k).Arrives (close 5#16) (view kindCycleClose 3#8 0#8 5#16 []) :=
  ⟨rfl, by decide +kernel, Nat.zero_lt_succ _⟩
theorem test_close_given : closeGiven (view kindCycleClose 3#8 0#8 5#16 []) = true := by decide +kernel
theorem test_close_elsewhere : ∀ g, (track .missing).tracker.state ≠ .locked g := by intro g h; cases h

def wanting : State := withActive bank (track (.locked .process))
def body4 : List Byte := beBytes 4 9
theorem process_arrives (s : State) (h : s.link.inbound.state = .up) (r : s.forward.frames.length < 8) :
    s.Arrives (process body4) (view kindProcess 2#8 0#8 5#16 body4) := ⟨h, by decide +kernel, r⟩
theorem test_process_held : wanting.Arrives (process body4) (view kindProcess 2#8 0#8 5#16 body4)
    ∧ wanting.timely (view kindProcess 2#8 0#8 5#16 body4) = true ∧ wanting.wanted 2#8 = true ∧ wanting.intake.length < 16 :=
  ⟨process_arrives _ rfl (by decide), by decide +kernel⟩
theorem test_process_unwanted : (track (.locked .process)).timely (view kindProcess 2#8 0#8 5#16 body4) = true
    ∧ (track (.locked .process)).wanted 2#8 = false := by decide +kernel
theorem test_process_late : (track .missing).timely (view kindProcess 2#8 0#8 5#16 body4) = false := by decide +kernel

theorem test_request_frame : goodFrame (management 9#8 1#8 []) = some (view kindManagement 9#8 1#8 5#16 [])
    ∧ up.isRequest (view kindManagement 9#8 1#8 5#16 []) = true ∧ up.agent.inbox.length < 4
    ∧ up.link.inbound.state = .up ∧ up.forward.frames.length < 8 := by decide +kernel
theorem test_inbox_full :
    let s := up.withAgent { inbox := List.replicate 4 ⟨9#8, []⟩ }
    s.isRequest (view kindManagement 9#8 1#8 5#16 []) = true ∧ s.agent.inbox.length = 4 ∧ s.link.inbound.state = .up := by
  decide +kernel
theorem test_own_frame : goodFrame (management 1#8 9#8 []) = some (view kindManagement 1#8 9#8 5#16 [])
    ∧ up.isOwn (view kindManagement 1#8 9#8 5#16 []) = true := by decide +kernel
theorem test_other_frame : goodFrame (buildFrame 0x33#8 2#8 0#8 5#16 []) = some (view 0x33#8 2#8 0#8 5#16 [])
    ∧ up.isOther (view 0x33#8 2#8 0#8 5#16 []) = true := by decide +kernel
theorem test_failed_frame : goodFrame [1#8, 2#8] = none := by decide
def stopBody : List Byte := [0#8, 7#8, 1#8, 9#8, 0#8, 0#8]
theorem broadcast_arrives (body : List Byte)
    (h : goodFrame (management 9#8 255#8 body) = some (view kindManagement 9#8 255#8 5#16 body)) :
    up.Arrives (management 9#8 255#8 body) (view kindManagement 9#8 255#8 5#16 body) := ⟨rfl, h, by decide⟩
theorem test_broadcast : up.Arrives (management 9#8 255#8 stopBody) (view kindManagement 9#8 255#8 5#16 stopBody)
    ∧ up.Arrives (management 9#8 255#8 []) (view kindManagement 9#8 255#8 5#16 []) :=
  ⟨broadcast_arrives _ (by decide +kernel), broadcast_arrives _ (by decide +kernel)⟩
theorem test_broadcast_kinds : up.isBroadcast (view kindManagement 9#8 255#8 5#16 stopBody) = true
    ∧ Request.isStop ⟨9#8, stopBody⟩ = true ∧ up.midFiring = false
    ∧ up.isBroadcast (view kindManagement 9#8 255#8 5#16 []) = true ∧ Request.isStop ⟨9#8, []⟩ = false := by decide +kernel

def firing0 : Firing := ⟨⟨7, .inputEdge, 1⟩, none, 0, 0, []⟩
/-- A burst whose only firing is about to complete. -/
def inFiring : State :=
  ((withActive bank up).withEngine .running).withBurst (some ⟨stamp, none, false, [], 0#48, some firing0⟩)
/-- A broadcast stop inside a firing waits, and is taken at the step that ends the firing; a stop that waits with no firing in hand
goes with the next claim. -/
theorem test_stop_claims :
    let s := inFiring.withAgent { stopClaim := true }
    let t := s.withBurst none
    inFiring.midFiring = true ∧ inFiring.isBroadcast (view kindManagement 9#8 255#8 5#16 stopBody) = true
    ∧ s.burstWork.midFiring = false ∧ s.agent.hold = none ∧ s.burstStep.engine = .stopped
    ∧ t.agent.stopClaim = true ∧ t.midFiring = false := by decide +kernel
theorem test_claim_free : up.ClaimFree := ⟨rfl, rfl⟩

theorem test_buffer_full : (up.withForward ⟨List.replicate 8 (buffered 0 true), 8⟩).forward.frames.length = 8 := by decide +kernel
/-- Each row of Figure 12-1 whose frames go to the Forward Buffer. -/
theorem test_forwards : up.Forwards (.cycleStartFrame (start 6#16 125)) (start 6#16 125)
    ∧ up.Forwards (.cycleCloseFrame (close 5#16)) (close 5#16)
    ∧ up.Forwards (.processFrame (process body4)) (process body4)
    ∧ up.Forwards (.broadcastManagementFrame (management 9#8 255#8 stopBody)) (management 9#8 255#8 stopBody)
    ∧ up.Forwards (.otherFrame (buildFrame 0x33#8 2#8 0#8 5#16 [])) (buildFrame 0x33#8 2#8 0#8 5#16 [])
    ∧ up.Forwards (.failedCheckFrame [1#8, 2#8]) [1#8, 2#8] :=
  ⟨.inl ⟨view kindCycleStart 3#8 0#8 6#16 (beBytes 2 125), by decide +kernel, .inl ⟨rfl, rfl⟩⟩,
    .inl ⟨view kindCycleClose 3#8 0#8 5#16 [], by decide +kernel, .inr (.inl ⟨rfl, rfl⟩)⟩,
    .inl ⟨view kindProcess 2#8 0#8 5#16 body4, by decide +kernel, .inr (.inr (.inl ⟨rfl, rfl⟩))⟩,
    .inl ⟨view kindManagement 9#8 255#8 5#16 stopBody, by decide +kernel, .inr (.inr (.inr (.inl ⟨rfl, by decide +kernel⟩)))⟩,
    .inl ⟨view 0x33#8 2#8 0#8 5#16 [], by decide +kernel, .inr (.inr (.inr (.inr ⟨rfl, by decide +kernel⟩)))⟩,
    .inr ⟨rfl, by decide⟩⟩
/-- At a full buffer: a Start, a Close and broadcasts that go to another block too, and a usable Process frame, which gives no
event. Which comes first there is free, so no value is worked out for the first three. -/
def full (s : State) : State := s.withForward ⟨List.replicate 8 (buffered 0 true), 8⟩
theorem test_full_other_block : ∀ k ∈ [TrackerState.acquiring, .locked .process, .locked .openSeg, .missing],
    let s := full (track k)
    s.forward.frames.length = 8 ∧ s.link.inbound.state = .up ∧ s.tracker.state = k
    ∧ goodFrame (start 6#16 125) = some (view kindCycleStart 3#8 0#8 6#16 (beBytes 2 125))
    ∧ goodFrame (close 5#16) = some (view kindCycleClose 3#8 0#8 5#16 [])
    ∧ goodFrame (management 9#8 255#8 stopBody) = some (view kindManagement 9#8 255#8 5#16 stopBody)
    ∧ s.isBroadcast (view kindManagement 9#8 255#8 5#16 stopBody) = true ∧ s.midFiring = false := by decide +kernel
theorem test_full_stop_in_firing : (full inFiring).midFiring = true ∧ (full inFiring).engine = .running
    ∧ (full inFiring).isBroadcast (view kindManagement 9#8 255#8 5#16 stopBody) = true
    ∧ (full inFiring).inDisarmSet forwardOverrun = false ∧ (full inFiring).inDisarmSet reportLoss = false := by decide +kernel
theorem test_full_process :
    (match exec (.processFrame (process body4)) (full wanting) with
      | .next u => (u.intake, u.counter .forwardDiscard, u.counter .lateFrame)
      | _ => ([], 0, 0)) = ([], 1, 0)
    ∧ (full wanting).timely (view kindProcess 2#8 0#8 5#16 body4) = true
    ∧ (full (track .missing)).timely (view kindProcess 2#8 0#8 5#16 body4) = false := by decide +kernel
theorem test_release : ∀ held ∈ [false, true], let s := up.withForward ⟨[buffered 0 held], 1⟩
    s.forward.frames = buffered 0 held :: [] ∧ (buffered 0 held).held = held ∧ s.link.sending = none
    ∧ s.link.outbound.state = .up ∧ (State.reset.withForward s.forward).link.outbound.state ≠ .up := by decide +kernel

def open_ : State := (track (.locked .openSeg)).withLink { up.link with budget := 1 }
theorem test_insertion :
    let s := open_.withAgent { responses := [⟨9#8, 7#16, 1#8, 9#8, 0#8, []⟩] }
    s.forwardIdle = true ∧ s.link.sending = none ∧ s.tracker.state = .locked .openSeg ∧ s.link.inserted < s.link.budget
    ∧ s.agent.responses = ⟨9#8, 7#16, 1#8, 9#8, 0#8, []⟩ :: [] ∧ s.link.outbound.state = .up := by decide +kernel
theorem test_marker :
    let s := open_.withReport { state := .active, records := [record] }
    s.forwardIdle = true ∧ s.link.sending = none ∧ s.link.inserted < s.link.budget ∧ s.agent.responses = []
    ∧ s.markerDue = true ∧ s.tracker.state = .locked .openSeg ∧ s.link.outbound.state = .up ∧ s.report.state = .active
    ∧ (∃ d ∈ s.report.records, d.sent = none) ∧ s.report.outstanding.length < 4 := by decide +kernel
/-- The rows of Figure 12-2 for one response: what is inserted, sent and discarded, by tracker state, budget and Outbound port. -/
theorem test_insertion_rows :
    let r : Response := ⟨9#8, 7#16, 1#8, 9#8, 0#8, []⟩
    let after (s : State) : Nat × Nat × Bool × Nat := match exec .insertionStart (s.withAgent { responses := [r] }) with
      | .next u => (u.agent.responses.length, u.link.inserted, u.link.sending.isSome, u.counter .forwardDiscard)
      | _ => (9, 9, true, 9)
    after open_ = (0, 1, true, 0) ∧ after (open_.withPort .outbound {}) = (0, 1, false, 1)
    ∧ after (open_.withLink { open_.link with inserted := 1 }) = (1, 1, false, 0)
    ∧ after (track (.locked .process)) = (1, 0, false, 0) ∧ after (track .missing) = (0, 0, true, 0)
    ∧ after ((track .missing).withPort .outbound {}) = (0, 0, false, 1)
    ∧ after (open_.withForward ⟨[buffered 0 false], 1⟩) = (1, 0, false, 0) := by decide +kernel
/-- Without a response nothing starts where no marker slot is granted. -/
theorem test_no_marker_slot : ∀ s ∈ [open_.withReport { records := [record] }, track .missing,
      (open_.withReport { state := .active, records := [record] }).withPort .outbound {}],
    s.forwardIdle = true ∧ s.link.sending = none ∧ s.agent.responses = [] ∧ s.markerDue = false := by decide +kernel

theorem test_tracker_timeout : ∀ k ∈ [TrackerState.acquiring, .locked .process, .locked .openSeg, .missing],
    (track k).tracker.timeoutAt = some 0 ∧ 0 ≤ (track k).now ∧ (track k).tracker.ref = some ⟨5#16, 125⟩
    ∧ (track k).tracker.state = k := by decide +kernel
theorem test_report_timeout :
    let s := State.reset.withReport { state := .active, timeoutDue := true, resend := 2 }
    let t := State.reset.withReport { state := .active, timeoutDue := true, resend := 3 }
    s.report.timeoutDue = true ∧ s.report.resend + 1 ≤ s.banks.active.settings.retryLimit
    ∧ t.report.timeoutDue = true ∧ t.banks.active.settings.retryLimit < t.report.resend + 1 := by decide +kernel
theorem test_lease_expiry :
    let h : Session := { station := 9#8, tag := 7#16, expiryDue := true }
    (State.reset.withAgent { session := some h }).agent.session = some h ∧ h.expiryDue = true := by decide +kernel

def timed : State := (withActive { Bank.empty with timers := Bank.empty.timers.set 2 { valid := true, period := 3 } }
  State.reset).withTimers (State.reset.timers.set 2 ⟨true, 2⟩)
theorem test_timer : (timed.banks.active.timers.get 2).valid = true ∧ (timed.timers.get 2).running = true
    ∧ (timed.banks.active.timers.get 2).period ≤ (timed.timers.get 2).elapsed + 1 ∧ timed.intake.length < 16 := by decide +kernel
/-- Inside a firing timer 2 has just been started with period 1, or stands above 0. In the first case it does not expire, and the
burst's step is all that can come next. -/
def timedIn (period elapsed : Nat) : State :=
  ((withActive { Bank.empty with timers := Bank.empty.timers.set 2 { valid := true, period := period } } inFiring).withTimers
    (State.reset.timers.set 2 ⟨true, elapsed⟩))
theorem test_timer_in_firing : (timedIn 1 0).midFiring = true ∧ ((timedIn 1 0).timers.get 2).elapsed = 0
    ∧ (timedIn 1 0).pending = [] ∧ (timedIn 1 0).timerDue 2 = true
    ∧ (match exec (.timerExpiry 2) (timedIn 1 0) with | .next t => t == timedIn 1 0 | _ => false) = true
    ∧ (timedIn 1 0).activities = [.burst]
    ∧ (timedIn 3 2).midFiring = true ∧ ((timedIn 3 2).timers.get 2).elapsed ≠ 0 ∧ (timedIn 3 2).intake.length < 16
    ∧ (match exec (.timerExpiry 2) (timedIn 3 2) with | .next t => t.timers.get 2 | _ => {}) = ⟨false, 3⟩ := by decide +kernel
theorem test_pulse : ((State.reset.withOutputs (State.reset.outputs.set 7 ⟨true, 1⟩)).outputs.get 7).pulse = 1 := by decide +kernel
theorem test_pin : (State.reset.inputs.get 1).pin ≠ true := by decide +kernel
theorem test_edge :
    let s := (withActive bank State.reset).withInputs (State.reset.inputs.set 1 ⟨false, true, some 0⟩)
    (s.inputs.get 1).since = some 0 ∧ 0 + 1000 * (s.banks.active.inputs.get 1).filter ≤ s.now ∧ s.intake.length < 16
    ∧ s.inputWatched 1 = true := by decide +kernel

/-! Witnesses: bursts, units and actions. -/

/-- A CLOSE_MISMATCH: the close of cycle 6 in cycle 5. -/
theorem test_close_mismatch :
    (match exec (.cycleCloseFrame (close 6#16)) (track (.locked .process)) with
      | .next u => (u.counter .closeMismatch, u.forward.frames.map BufFrame.bytes) | _ => (0, []))
    = (1, [close 6#16]) := by decide +kernel

/-- A close that brings report timer and lease to their limits, by a Close, an implied close before a Start and a timeout. -/
theorem test_close_falls_due :
    let s := ((track (.locked .process)).withReport { timer := ⟨true, 15⟩ }).withAgent
      { session := some { station := 9#8, tag := 7#16, lease := 255 } }
    ∀ c ∈ [Instr.cycleCloseFrame (close 5#16), .cycleStartFrame (start 6#16 125), .trackerTimeout],
      (match exec c s with
        | .next u => (u.report.timer, u.report.timeoutDue, u.agent.session.map Session.expiryDue)
        | _ => ({}, false, none)) = (⟨true, 16⟩, true, some true) := by decide +kernel

def closes (n : Nat) : List Event := List.replicate n (.cycleClose stamp)
theorem test_intake_full :
    let s := wanting.withIntake (closes 7 ++ .timerExpiry 2 stamp :: closes 8)
    s.intake.length = 16 ∧ (Event.timerExpiry 2 stamp).ordinary = true ∧ (∀ e ∈ closes 16, e.ordinary = false)
    ∧ (closes 16).length = 16 ∧ (closes 15).length < 16 ∧ (Event.frame 0 2#8 stamp).frameId = some 0
    ∧ (match exec (.cycleCloseFrame (close 5#16)) s with | .next u => u.intake | _ => [])
      = closes 7 ++ closes 8 ++ [.cycleClose s.stampNow] := by decide +kernel

theorem test_take (e : Event) : (State.reset.withIntake [e]).burst = none ∧ (State.reset.withIntake [e]).intake = e :: [] :=
  ⟨rfl, rfl⟩

/-- An input edge taken in RUNNING fires trigger 7, and its list holds that trigger alone. -/
def edged : State := ((withActive bank up).withEngine .running).withIntake [.inputEdge 1 true 2#4 stamp]
theorem test_initial_list : ∀ b, (match exec (.takeInputEdge .stepwise) edged with | .next u => u.burst | _ => none) = some b →
    b.pending = [⟨7, .inputEdge, 1⟩] := by
  have h : (match exec (.takeInputEdge .stepwise) edged with | .next u => u.burst | _ => none)
      = some ⟨stamp, none, false, [⟨7, .inputEdge, 1⟩], 0#48, none⟩ := by decide +kernel
  intro b hb; rw [h] at hb; cases hb; rfl
/-- The entries of things, with a trigger of channel 3's loss among them, and the list's capacity. -/
theorem test_entries :
    edged.entriesOf [.input 1 true 2#4, .timer 1, .input 1 true 2#4] = [⟨7, .inputEdge, 1⟩, ⟨7, .inputEdge, 1⟩]
    ∧ edged.produces edged (.inputEdge 1 true 2#4 stamp) = [.input 1 true 2#4] ∧ (Event.inputEdge 1 true 2#4 stamp).code ≠ 6
    ∧ (edged.withChannels (State.reset.channels.set 3 ⟨.seen .held sample, 1, false⟩)).produces
        (edged.withChannels (State.reset.channels.set 3 ⟨.seen .stale sample, 1, false⟩)) (.cycleLost stamp)
      = [.channelStale 3] := by decide +kernel
theorem test_initial_list_hypotheses : edged.burst = none ∧ edged.intake = .inputEdge 1 true 2#4 stamp :: []
    ∧ edged.engine = .running ∧ (Event.inputEdge 1 true 2#4 stamp).thing? = some (.input 1 true 2#4) := by decide +kernel

def burst0 : Burst := ⟨stamp, none, false, [⟨7, .inputEdge, 1⟩], 0#48, none⟩
theorem test_firing_begins :
    let s := ((withActive bank State.reset).withEngine .running).withBurst (some burst0)
    let t := s.withTriggers (s.triggers.set 7 { armed := true })
    s.burst = some burst0 ∧ s.engine = .running ∧ burst0.firing = none ∧ burst0.pending = ⟨7, .inputEdge, 1⟩ :: []
    ∧ burst0.fired.getLsbD 7 = false ∧ (s.triggers.get 7).armed = false ∧ (t.triggers.get 7).armed = true
    ∧ (BitVec.twoPow 48 7).getLsbD 7 = true := by decide +kernel
theorem test_firing_completes :
    let f : Firing := ⟨⟨7, .inputEdge, 1⟩, none, 0, 0, []⟩
    f.left = 0 ∧ f.member = none ∧ f.joins = [] ∧ (bank.triggers.get 7).report = false
    ∧ ((bank.triggers.set 7 { report := true }).get 7).report = true ∧ State.reset.report.records.length < 92 := by
  decide +kernel

/-- The three states of a firing in hand that the statements tell apart. -/
theorem test_firing_states : ∀ f ∈ [{ firing0 with left := 1 }, { firing0 with joins := [9] }, { firing0 with member := some 9 }],
    let b : Burst := ⟨stamp, none, false, [], 0#48, some f⟩
    let s := inFiring.withBurst (some b)
    s.burst = some b ∧ b.firing = some f ∧ s.engine = .running ∧ b.fired.getLsbD 9 = false
    ∧ (s.triggers.get 9).armed = false ∧ ((s.triggers.set 9 { armed := true }).get 9).armed = true := by decide +kernel

/-- The end of a FRAME burst with entry 2 aimed at slot 0 and entry 3 at a slot that the frame lacks. -/
def ending : State :=
  let entries := bank.patches.set 2 { valid := true, station := 2#8, mask := 0xFF#32 }
  let bank2 := { bank with patches := entries.set 3 { valid := true, station := 2#8, slot := 5 } }
  let armed := (State.reset.patches.set 2 { value := 0x1234#32, armed := true }).set 3 { armed := true }
  ((withActive bank2 (up.withForward ⟨[buffered 0 true], 1⟩)).withPatches armed).withBurst
    (some ⟨stamp, some 0, false, [], 0#48, none⟩)
theorem test_burst_end : ending.forward.find 0 = some (buffered 0 true)
    ∧ goodFrame (buffered 0 true).bytes = some (view kindProcess 2#8 0#8 5#16 body4) ∧ ending.agent.hold = none
    ∧ (∃ u, exec (.takeCycleClose .stepwise) (up.withIntake [.cycleClose stamp]) = .next u)
    ∧ ending.aims 2#8 2 = true ∧ ending.aims 2#8 3 = true ∧ ending.editedSlot 2#8 0 9#32 = 0x34#32
    ∧ ending.burstWork.counter .patchMiss = 1
    ∧ ending.burstWork.forward.frames = [{ buffered 0 false with bytes := process (beBytes 4 0x34) }] := by
  refine ⟨by decide +kernel, by decide +kernel, rfl, ⟨_, rfl⟩, ?_⟩; decide +kernel
theorem test_carried_swap :
    let b : Burst := ⟨stamp, none, true, [], 0#48, none⟩
    let s := (up.withBurst (some b)).withBanks { commitPending := true }
    s.burst = some b ∧ b.carriesSwap = true ∧ b.frame = none ∧ s.agent.hold = none ∧ s.banks.commitPending = true
    ∧ s.intake.length ≤ 12 := by decide +kernel

/-- A FRAME event whose frame is in the buffer, with channel 3 following its station. -/
def framed (c : ChannelRt) : State :=
  (((withActive bank up).withForward ⟨[buffered 0 true], 1⟩).withIntake [.frame 0 2#8 stamp]).withChannels
    (State.reset.channels.set 3 c)
theorem test_frame_event : (framed {}).burst = none ∧ (framed {}).intake = .frame 0 2#8 stamp :: []
    ∧ (framed {}).forward.find 0 = some (buffered 0 true)
    ∧ (framed {}).isDuplicate 2#8 (buffered 0 true).ordinal = false
    ∧ (framed ⟨.seen .fresh sample, 0, true⟩).isDuplicate 2#8 (buffered 0 true).ordinal = true := by decide +kernel

/-- The first sample of channel 3 is the slot's word, 9, at velocity 0 (R64). -/
theorem test_first_sample : (match exec (.takeFrameEvent .stepwise) (framed {}) with | .next u => u.channels.get 3 | _ => {})
    = ⟨.seen .fresh ⟨9#48, 9#32, 0#32, 4#48⟩, 0, true⟩ := by decide +kernel

def closing (c : ChannelRt) : State :=
  ((withActive bank up).withIntake [.cycleClose stamp]).withChannels (State.reset.channels.set 3 c)
theorem test_close_accounts : ∀ u ∈ [true, false], ∀ n ∈ [0, 2], let s := closing ⟨.seen .fresh sample, n, u⟩
    s.burst = none ∧ s.intake = .cycleClose stamp :: [] ∧ (s.banks.active.channels.get 3).valid = true
    ∧ (s.channels.get 3).value = .seen .fresh sample ∧ (s.channels.get 3).updated = u
    ∧ ((s.channels.get 3).misses + 1 = (s.banks.active.channels.get 3).missLimit ↔ n = 2) := by decide +kernel
theorem test_cycle_lost : let s := (closing ⟨.seen .held sample, 1, false⟩).withIntake [.cycleLost stamp]
    s.burst = none ∧ s.intake = .cycleLost stamp :: [] ∧ (s.banks.active.channels.get 3).valid = true
    ∧ (s.channels.get 3).value = .seen .held sample ∧ (closing {}).channels.get 3 = {} := by decide +kernel

/-- A watch and a train on channel 3 when it goes STALE: UNKNOWN with its thresholds, IDLE with its counts. -/
theorem test_stale_units :
    let units (s : State) := (((s.withWatches (s.watches.set 2 ⟨.isTrue, 6#48, 9#48⟩)).withTrains
      (s.trains.set 4 ⟨.running, some ⟨0#48, 5, none⟩, 1, true, 0⟩)).withBanks { s.banks with active := { bank with
        watches := bank.watches.set 2 { valid := true, channel := 3 }, trains := bank.trains.set 4 { valid := true, channel := 3 } } })
    let after (c : Instr) (s : State) : WatchRt × TrainRt := match exec c (units s) with
      | .next u => (u.watches.get 2, u.trains.get 4)
      | _ => ({}, {})
    after (.takeCycleLost .stepwise) ((closing ⟨.seen .held sample, 1, false⟩).withIntake [.cycleLost stamp])
      = (⟨.unknown, 6#48, 9#48⟩, ⟨.idle, some ⟨0#48, 5, none⟩, 1, false, 0⟩)
    ∧ after (.takeCycleClose .stepwise) (closing ⟨.seen .fresh sample, 2, false⟩)
      = (⟨.unknown, 6#48, 9#48⟩, ⟨.idle, some ⟨0#48, 5, none⟩, 1, false, 0⟩)
    ∧ after (.takeCycleClose .stepwise) (closing ⟨.seen .fresh sample, 0, false⟩)
      = (⟨.isTrue, 6#48, 9#48⟩, ⟨.running, some ⟨0#48, 5, none⟩, 1, true, 0⟩) := by decide +kernel

/-- The band of an ABOVE test: TRUE at the threshold, kept within the hysteresis, FALSE below it (Figure 3-3). -/
theorem test_above : let e : WatchEntry := { valid := true, test := .above, a := 6#48, hysteresis := 2 }
    (WatchRt.evaluate e sample ⟨.isFalse, 6#48, 0#48⟩).truth = .isTrue
    ∧ (WatchRt.evaluate e { sample with extended := 4#48 } ⟨.isTrue, 6#48, 0#48⟩).truth = .isTrue
    ∧ (WatchRt.evaluate e { sample with extended := 3#48 } ⟨.isTrue, 6#48, 0#48⟩).truth = .isFalse := by decide +kernel
/-- Priming ignores the hysteresis and gives no edge (R48). -/
theorem test_priming : let e : WatchEntry := { valid := true, test := .above, a := 6#48, hysteresis := 2 }
    let w := WatchRt.evaluate e { sample with extended := 5#48, velocity := 0#32 } ⟨.unknown, 6#48, 0#48⟩
    w.truth = .isFalse ∧ edgeOf .unknown w.truth = none := by decide +kernel
/-- A watch on the channel that a FRAME event updates, and one on another. -/
theorem test_watch_on_channel :
    let s := withActive { bank with watches := (bank.watches.set 2 { valid := true, channel := 3 }).set 5 { valid := true } }
      (framed {})
    (s.banks.active.watches.get 2).valid = true ∧ s.follows 2#8 3 = true ∧ s.follows 2#8 0 = false
    ∧ (slotAt (buffered 0 true).bytes 0).isSome = true ∧ (slotAt (buffered 0 true).bytes 1) = none := by decide +kernel
theorem test_bit_test : let e : WatchEntry := { test := .bitsAll }
    e.test.magnitude = false ∧ (Truth.isFalse ≠ .unknown) ∧ sample.raw &&& 6#32 = 6#32 ∧ sample.raw &&& 1#32 ≠ 1#32 := by
  decide +kernel

theorem test_unseen_channel : (State.reset.channels.get 0).current = none ∧ (State.reset.channels.get 31).current = none := by
  decide +kernel
theorem test_refused : act 0 { kind := .rebase } (withActive Bank.empty State.reset) = none := by decide +kernel
theorem test_current_channel : ((closing ⟨.seen .held sample, 1, false⟩).channels.get 3).current = some sample := by decide +kernel
/-- A PATCH from a HELD channel takes the low 32 bits of the sum, modulo 2^48 (R30). -/
theorem test_patch_from_channel :
    let e : ActionEntry := { kind := .patch, mode := 1, target := 2, aux := 3, argument := 0xFFFFFFFFFFFF#48 }
    e.aux = (3 : Fin 32).val ∧ ((act 0 e (closing ⟨.seen .held sample, 1, false⟩)).map fun u => u.patches.get 2)
      = some ⟨5#32, true, 0, 0⟩ := by decide +kernel
theorem test_train_on_channel :
    let b := { Bank.empty with trains := Bank.empty.trains.set 4 { valid := true, channel := 3 } }
    let s := withActive b (closing ⟨.seen .held sample, 1, false⟩)
    (s.channels.get (s.banks.active.trains.get 4).channel).current = some sample := by decide +kernel
/-- A train with an interval of 10 and a width of 4 reaches two boundaries at once, and its division ends ENDING (R80, R82). -/
theorem test_train : let e : TrainEntry := { valid := true, interval := 10, width := 4, count := 3 }
    let r : TrainRt := ⟨.running, some ⟨0#48, 5, none⟩, 1, false, 0⟩
    1 ≤ e.interval
    ∧ r.evaluate e 21#48 = ⟨⟨.ending, some ⟨0#48, 21, some 2⟩, 3, true, 1⟩, 2⟩
    ∧ (r.evaluate e 21#48).rt.evaluate e 24#48 = ⟨⟨.idle, some ⟨0#48, 21, some 2⟩, 3, false, 1⟩, 0⟩ := by decide +kernel

/-- A THRESHOLD that is taken, one that leaves the window of an INSIDE watch wrong, and one whose watch is evaluated. -/
theorem test_threshold :
    let w : WatchRt := ⟨.isFalse, 6#48, 9#48⟩
    let e : WatchEntry := { valid := true, test := .inside, a := 6#48, b := 9#48, channel := 3 }
    (w.load false 9#48).windowOk e = true ∧ (w.load false 10#48).windowOk e = false
    ∧ ((closing ⟨.seen .held sample, 1, false⟩).channels.get e.channel).current = some sample
    ∧ edgeOf w.truth ((w.load false 5#48).evaluate e sample).truth = some true
    ∧ edgeOf w.truth ((w.load false 7#48).evaluate e sample).truth = none := by decide +kernel
theorem test_train_stop : ∀ on ∈ [false, true],
    let r : TrainRt := ⟨.running, some ⟨0#48, 0, none⟩, 0, on, 0⟩
    ((State.reset.withTrains (State.reset.trains.set 4 r)).trains.get 4).state = .running
    ∧ r.on = on ∧ (State.reset.trains.get 4).state ≠ .running := by decide +kernel
theorem test_mark : ({ kind := .mark, aux := 5 } : ActionEntry).kind = .mark
    ∧ (State.reset.withBurst (some burst0)).burst = some burst0 := ⟨rfl, rfl⟩
theorem test_action_targets : ({ kind := .timerStop, target := 3 } : ActionEntry).target = (3 : Fin 4).val
    ∧ ({ kind := .pulse, target := 7 } : ActionEntry).target = (7 : Fin 8).val
    ∧ ({ kind := .patch, target := 15 } : ActionEntry).target = (15 : Fin 16).val
    ∧ ({ kind := .enable, target := 47 } : ActionEntry).target = (47 : Fin 48).val
    ∧ ({ kind := .rebase, target := 31 } : ActionEntry).target = (31 : Fin 32).val
    ∧ ({ kind := .threshold, target := 63 } : ActionEntry).target = (63 : Fin 64).val
    ∧ ({ kind := .capture, target := 31 } : ActionEntry).target = (31 : Fin 32).val
    ∧ ({ kind := .timerCapture, target := 3 } : ActionEntry).target = (3 : Fin 4).val
    ∧ ({ kind := .timerStart, target := 3 } : ActionEntry).target = (3 : Fin 4).val := by decide
theorem test_admitted : let full := State.reset.withReport { records := List.replicate 92 record }
    State.reset.report.records.length < 92 ∧ (RecordBody.fault 0 1).code = 4 ∧ full.report.records.length < 96
    ∧ full.report.hasRoom (.mark 0 0 0#48) = false ∧ full.flag reportLoss = false
    ∧ ((full.withFaults (full.faults.set 4 ⟨true, 1⟩)).flag reportLoss = true)
    ∧ 96 ≤ (State.reset.withReport { records := List.replicate 96 record }).report.records.length := by decide +kernel
theorem test_fault_record : let full := State.reset.withReport { records := List.replicate 96 record }
    State.reset.flag linkDown = false ∧ (State.reset.setFault linkDown).flag linkDown = true
    ∧ State.reset.report.records.length < 96 ∧ 96 ≤ full.report.records.length ∧ full.flag reportLoss = false
    ∧ ((State.reset.raiseFault linkDown 1).report.records.map Record.body) = [.fault linkDown 1] := by decide +kernel
/-- A REBASE primes a watch of known truth on its channel, and leaves one that is UNKNOWN. -/
theorem test_rebase_primes : ∀ w ∈ [Truth.isTrue, .unknown],
    let s := (withActive { bank with watches := bank.watches.set 2 { valid := true, channel := 3, a := 6#48, b := 9#48 } }
      (closing ⟨.seen .held sample, 1, false⟩)).withWatches (State.reset.watches.set 2 ⟨w, 6#48, 9#48⟩)
    ((act 0 { kind := .rebase, target := 3, argument := 0#48 } s).map fun u => (u.watches.get 2).truth)
      = some (if w = .unknown then .unknown else .isFalse) := by decide +kernel
theorem test_raise : linkDown ≠ reportLoss ∧ (State.reset.withEngine .running).inDisarmSet linkDown = true
    ∧ State.reset.engine ≠ .running := by decide +kernel

/-! Witnesses: requests. -/

def req (k : Byte) (body : List Byte) : Request := ⟨9#8, [0#8, 7#8, 3#8, k] ++ beBytes 2 body.length ++ body⟩
def asks (k : Byte) (body : List Byte) (s : State) : State := s.withAgent { inbox := [req k body] }
def held (k : Byte) (body : List Byte) (s : State) : State :=
  s.withAgent { inbox := [req k body], session := some { station := 9#8, tag := 7#16 } }

/-- A request without a session is ready, whatever its kind. -/
theorem asks_ready (k : Byte) (body : List Byte) (s : State) (h : (req k body).headerFault = false) :
    (asks k body s).Ready (req k body) [] k := ⟨rfl, rfl, by simp [asks, State.withAgent], h, rfl, fun h => by cases h⟩

/-- A request of the holder is ready, whatever its kind. -/
theorem held_ready (k : Byte) (body : List Byte) (s : State) (h : (req k body).headerFault = false)
    (o : (req k body).tag = 7#16) : (held k body s).ReadyHeld (req k body) [] k :=
  ⟨⟨rfl, rfl, by simp [held, State.withAgent], h, rfl, fun _ => rfl⟩, by
    simp [held, State.withAgent, Agent.isHolder, Session.isOf, o]; rfl⟩

/-- The bodies of the requests in the statements have no header fault, and read as the statements say. -/
theorem test_request_bodies : ∀ body ∈ [[], [0#8], [1#8], [8#8], [0x3F#8], [0#8, 1#8, 0#8, 8#8], [3#8, 47#8, 1#8],
      [0#8, 0#8, 0#8], [1#8, 47#8], [3#8, 0#8, 1#8, 1#8, 2#8, 0#8, 9#8]],
    ∀ k ∈ [0x01#8, 0x15#8], (req k body).headerFault = false ∧ (req k body).tag = 7#16 ∧ (req k body).body = body
      ∧ (req k body).kind? = some k := by decide +kernel
/-- Claims inside a firing, a stop that waits with a request, a SESSION_CLOSE with a body, and a maximum out of range. -/
theorem test_request_states :
    (held 0x09#8 [] inFiring).midFiring = true ∧ (req 0x02#8 [0#8]).body ≠ [] ∧ (0#8).toNat = 0 ∧ 8 < (9#8).toNat
    ∧ (held 0x0C#8 [1#8, 47#8] inFiring).ReadyHeld (req 0x0C#8 [1#8, 47#8]) [] 0x0C#8
    ∧ (req 0x15#8 [1#8]).fits .counterReadClear ∧ (req 0x15#8 [0#8]).fits .counterRead :=
  ⟨rfl, by decide +kernel, rfl, by decide, held_ready _ _ _ (by decide +kernel) (by decide +kernel),
    ⟨fun _ => by decide +kernel, fun h => (by cases h)⟩, ⟨fun h => (by cases h), fun _ => by decide +kernel⟩⟩
theorem test_open_owned : let s := asks 0x01#8 [] up
    let t := s.withAgent { s.agent with session := some { station := 8#8, tag := 7#16 } }
    s.agent.session = none ∧ t.agent.isHolder (req 0x01#8 []) = false
    ∧ ({ station := 8#8, tag := 7#16 } : Session).isOf (req 0x01#8 []) = false := by decide +kernel
/-- A report timer that a timeout has stopped stands at its value, and STATUS_READ is ready for it (log 29). -/
theorem test_report_timer_stands :
    (Report.revert { state := .active, timer := ⟨true, 16⟩ }).timer = ⟨false, 16⟩
    ∧ (asks 0x03#8 [] up).report.timer = ⟨false, 0⟩ := by decide +kernel
theorem test_table_read : TableId.ofCode 1#8 = some .channel ∧ (31 + 1 ≤ TableId.channel.size) ∧ unitSize 3 = some 48
    ∧ up.midFiring = false := by decide +kernel
/-- A TABLE_WRITE of one entry of the Timer Table with a period of 9, and one of the ninth timer. -/
theorem test_table_write :
    (readTableWrite [6#8, 0#8, 1#8, 1#8, 2#8, 0#8, 0#8, 9#8]).map TableWrite.inRange = some true
    ∧ (readTableWrite [6#8, 9#8, 1#8, 1#8, 2#8, 0#8, 0#8, 9#8]).map TableWrite.inRange = some false
    ∧ readTableWrite [6#8, 0#8, 1#8] = none := by decide +kernel
theorem test_commit_states : Bank.empty.failure = none
    ∧ ({ Bank.empty with watches := Bank.empty.watches.set 0 { valid := true } } : Bank).failure = some ⟨2, 0, 1⟩
    ∧ (track (.locked .process)).banks.commitPending = false ∧ (track (.locked .process)).burst = none := by decide +kernel
theorem test_engine_run : let s := up.withEngine .disarmed
    let t := s.withFaults (s.faults.set 0 ⟨true, 1⟩)
    s.midFiring = false ∧ (∀ k, s.inDisarmSet k = true → s.flag k = false)
    ∧ t.engine = .disarmed ∧ t.inDisarmSet 0 = true ∧ t.flag 0 = true := by decide +kernel
theorem test_trigger_set : readTriggerSet [1#8, 47#8] = some [47] ∧ (1 ≤ [47].length) ∧ (∀ i ∈ [47], i < 48) := by decide
/-- Inside a firing a RUNTIME_READ of trigger 47 waits, and one of trigger 48 is answered RANGE at once. -/
theorem test_runtime_read_in_firing : ∀ first ∈ [47#8, 48#8],
    let q := req 0x0F#8 [3#8, first, 1#8]
    (match exec .runtimeRead (asks 0x0F#8 [3#8, first, 1#8] inFiring) with
      | .next u => (u.agent.hold, u.agent.responses.map Response.status) | _ => (none, []))
    = if first = 47#8 then (some q, []) else (none, [stRange]) := by decide +kernel

/-- A request that waits on the last firing of a burst, and what the step that ends the firing answers, by kind. -/
def waitingOn (q : Request) : State := inFiring.withAgent { session := some { station := 9#8, tag := 7#16 }, hold := some q }
theorem test_waiting_claims :
    (∀ k ∈ [0x08#8, 0x09#8, 0x0A#8, 0x0B#8], let s := waitingOn (req k [])
      s.agent.hold = some (req k []) ∧ (req k []).kind? = some k ∧ s.burstWork.midFiring = false
      ∧ s.burstWork.agent.stopClaim = false ∧ s.burstWork.engine ≠ .disarmed ∧ s.burstStep.agent.hold = none
      ∧ s.burstStep.agent.responses.map Response.status = [stOk])
    ∧ (∀ k ∈ [0x0C#8, 0x0D#8], readTriggerSet (req k [1#8, 7#8]).body = some [7]
      ∧ ((waitingOn (req k [1#8, 7#8])).burstStep.triggers.get 7).armed = (k == 0x0C#8))
    ∧ (waitingOn (req 0x0F#8 [3#8, 7#8, 1#8])).burstStep.agent.hold = none
    ∧ ((waitingOn (req 0x08#8 [])).withBurst ((waitingOn (req 0x08#8 [])).burst.map
        fun b => { b with firing := some { firing0 with left := 1 } })).burstWork.midFiring = true
    ∧ ((waitingOn (req 0x0C#8 [1#8, 7#8])).withEngine .disarmed).engine = .disarmed := by decide +kernel

/-- A stop and a request that wait together, and a waiting ENGINE_RUN in DISARMED, which runs or is answered FAULTED. -/
theorem test_waiting_with_stop :
    let s := (waitingOn (req 0x09#8 [])).withAgent { (waitingOn (req 0x09#8 [])).agent with stopClaim := true }
    s.burstWork.midFiring = false ∧ s.burstWork.agent.stopClaim = true ∧ s.agent.hold = some (req 0x09#8 []) := by decide +kernel
theorem test_waiting_run_disarmed :
    let s := ((waitingOn (req 0x08#8 [])).withBurst (some ⟨stamp, none, false, [], 0#48, none⟩)).withEngine .disarmed
    let t := s.withFaults (s.faults.set 0 ⟨true, 1⟩)
    s.burstStep.engine = .running ∧ s.burstStep.agent.responses.map Response.status = [stOk]
    ∧ t.burstStep.engine = .disarmed ∧ t.burstStep.agent.responses.map Response.status = [stFaulted]
    ∧ t.burstWork.inDisarmSet 0 = true ∧ t.burstWork.flag 0 = true ∧ t.burstWork.engine = .disarmed := by decide +kernel

/-- An engine reset releases the held frames, puts a loaded threshold back and the reporter by its Settings; CONFIG_CLEAR accepts a
pending input change. -/
theorem test_reset_and_clear :
    let b := { bank with watches := bank.watches.set 2 { valid := true, channel := 3, a := 6#48 }, settings := { markers := true } }
    let s := ((((withActive b (held 0x0A#8 [] up)).withForward ⟨[buffered 0 true], 1⟩).withIntake [.frame 0 2#8 stamp]).withWatches
      (State.reset.watches.set 2 ⟨.isTrue, 9#48, 0#48⟩)).withReport { gap := 3, nextFrame := 7#16, epoch := 255#8 }
    let t := (held 0x0B#8 [] up).withInputs (State.reset.inputs.set 1 ⟨false, true, some 0⟩)
    (match exec .engineReset s with
      | .next u => (u.forward.frames, u.watches.get 2, u.report.state, u.report.gap, u.report.nextFrame, u.report.epoch)
      | _ => ([], {}, .halted, 9, 9#16, 9#8))
      = ([buffered 0 false], ⟨.unknown, 6#48, 0#48⟩, .active, 0, 0#16, 0#8)
    ∧ (match exec .configClear t with | .next u => (u.inputs.get 1, u.intake) | _ => ({}, [])) = (⟨true, true, none⟩, [])
    ∧ s.midFiring = false ∧ s.agent.stopClaim = false := by decide +kernel

/-- A COMMIT that waits is made and answered at the end of the burst. -/
theorem test_waiting_commit :
    let b : Burst := ⟨stamp, none, false, [], 0#48, none⟩
    let s := (waitingOn (req 0x06#8 [])).withBurst (some b)
    s.agent.hold = some (req 0x06#8 []) ∧ (req 0x06#8 []).kind? = some 0x06#8 ∧ s.burst = some b ∧ s.intake.length ≤ 12
    ∧ s.burstWork.banks.generation = 1 ∧ s.burstWork.agent.responses.map Response.body = [[0#8, 0#8, 1#8]] := by
  decide +kernel
theorem test_trigger_set_range : readTriggerSet [1#8, 48#8] = some [48] ∧ 48 ≤ 48 := by decide
theorem test_fire_states : (up.withEngine .running).intake.length < 16
    ∧ ((up.withEngine .running).withIntake (List.replicate 16 (.cycleClose stamp))).intake.length = 16 := by decide +kernel
theorem test_acknowledge :
    let sent (n : BitVec 16) : Record := { record with sent := some n }
    let r : Report := { state := .active, records := [sent 0#16, sent 1#16], nextFrame := 2#16, timer := ⟨true, 3⟩ }
    r.covered 0#16 = some [0#16] ∧ r.covered 1#16 = some [0#16, 1#16] ∧ r.epoch = 0#8 ∧ ¬ (2#16 ∈ r.outstanding)
    ∧ (r.remove [0#16]).timer = ⟨true, 0⟩ ∧ (r.remove [0#16, 1#16]).timer = ⟨false, 0⟩ := by decide +kernel
theorem test_report_states : State.reset.report.state ≠ .active
    ∧ (State.reset.withReport { state := .halted }).report.state = .halted := by decide +kernel
theorem test_fault_clear : let s := State.reset.withFaults (State.reset.faults.set 0 ⟨true, 1⟩)
    s.flag 0 = true ∧ s.causePersists 0 = true ∧ up.causePersists 0 = false := by decide +kernel
theorem test_duplicate :
    let r : Response := ⟨9#8, 7#16, 3#8, 6#8, 0#8, []⟩
    let g : Agent := { inbox := [req 0x06#8 []], session := some { station := 9#8, tag := 7#16 }, cache := some ⟨3#8, r⟩ }
    g.isHolder (req 0x06#8 []) = true ∧ g.duplicate (req 0x01#8 [1#8]) = some r ∧ g.duplicate (req 0x16#8 []) = some r
    ∧ (req 0x16#8 []).kind? = some 0x16#8 ∧ (req 0x16#8 []).headerFault = false ∧ g.duplicate (req 0x06#8 []) = some r ∧ g.hold = none ∧ g.responses.length < 4 := by
  decide +kernel

/-! Witnesses: the properties that every step keeps, in a state with a command in its queue. -/

def waiting : State := up.withPending [.forwardRelease]
theorem test_waiting_steps : ∃ t, step waiting = .next t := ⟨_, rfl⟩
theorem test_waiting_bounded : waiting.Bounded :=
  ⟨by decide +kernel, by decide +kernel, by decide +kernel, by decide +kernel, by decide +kernel, by decide +kernel,
    fun _ h => by cases h⟩
theorem test_waiting_quiet : waiting.Quiet :=
  ⟨fun _ => by decide +kernel, fun _ => by decide +kernel, fun _ => by decide +kernel, fun _ _ h => (by cases h),
    fun _ => by decide +kernel⟩
theorem test_waiting_tracked : waiting.Tracked := ⟨by decide +kernel, by decide +kernel⟩
theorem test_waiting_inputs : waiting.InputsExact := by unfold State.InputsExact; decide +kernel
theorem test_waiting_reporter : waiting.ReporterExact :=
  ⟨fun _ => by decide +kernel, fun _ => rfl, by decide +kernel⟩
theorem test_waiting_saturated : waiting.Saturated := ⟨fun c => by cases c <;> decide +kernel, by decide +kernel⟩

theorem test_waiting_waits : waiting.WaitsOnBurst := ⟨fun h => (by cases h), fun _ h => (by cases h)⟩

/-! Single steps. -/

/-- A pin that goes HIGH under filter 0 is accepted at once when it is due, and the event carries direction and levels (R104). -/
theorem test_step_input :
    (match step (((withActive bank up).withInputs (State.reset.inputs.set 1 ⟨false, true, some 0⟩)).withPending
        [.inputEdgeAccept 1]) with
      | .next u => (u.inputs.get 1, u.intake, u.pending)
      | _ => ({}, [], []))
    = (⟨true, true, none⟩, [.inputEdge 1 true 2#4 ⟨0#16, 0⟩], []) := by decide +kernel

/-- A SESSION_OPEN with no session is answered OK with the lease setting, 256 (R169). -/
theorem test_step_open :
    (match step ((asks 0x01#8 [] up).withPending [.sessionOpen]) with
      | .next u => (u.agent.session, u.agent.responses)
      | _ => (none, []))
    = (some ⟨9#8, 7#16, 0, false⟩, [⟨9#8, 7#16, 3#8, 0x01#8, 0x00#8, [1#8, 0#8]⟩]) := by decide +kernel

/-- A Start that follows another by one number and repeats its period locks the tracker (R185). -/
theorem test_step_lock :
    (match step ((track .acquiring).withPending [.cycleStartFrame (start 6#16 125)]) with
      | .next u => (u.tracker.state, u.tracker.ref, u.intake)
      | _ => (.lost, none, []))
    = (.locked .process, some ⟨6#16, 125⟩, [.cycleStart 6#16 ⟨6#16, 0⟩]) := by decide +kernel

end Sys2Proof.Tests
end

section
/-! SUPPORT. What each action on records and timers answers, said once for each kind, and the two statements about them. -/

namespace Sys2Proof

@[simp] theorem toFin?_val {n : Nat} (i : Fin n) : toFin? n i.val = some i := by simp [toFin?]

namespace Machine

theorem State.burstStamp_of_burst {s : State} {b : Burst} (hb : s.burst = some b) : s.burstStamp = b.stamp := by
  simp [State.burstStamp, hb]

/-- Only a RUNNING timer comes to its period (R93). -/
theorem State.timerDue_of_stopped {s : State} {k : Fin 4} (h : (s.timers.get k).running = false) : s.timerDue k = false := by
  simp [State.timerDue, h]

/-- A STOPPED timer is left as it is (R94). -/
theorem TimerRt.halt_of_stopped {r : TimerRt} (h : r.running = false) : r.halt = r := by
  obtain ⟨running, elapsed⟩ := r
  subst h
  rfl

section Kinds

variable {s : State} {e : ActionEntry} {b : Burst} (t : Fin 48)

theorem act_mark (hb : s.burst = some b) (h : e.kind = .mark) :
    act t e s = some (s.offerRecord b.stamp (.mark t e.aux e.argument)) := by
  simp [act, h, actMark, State.burstStamp_of_burst hb]

theorem act_capture {c : Fin 32} (hb : s.burst = some b) (h : e.kind = .capture) (hc : e.target = c) :
    act t e s = some (s.offerRecord b.stamp (.capture t c (s.channels.get c).value)) := by
  simp [act, h, actCapture, hc, State.burstStamp_of_burst hb]

theorem act_timerCapture {k : Fin 4} (hb : s.burst = some b) (h : e.kind = .timerCapture) (hk : e.target = k) :
    act t e s = some (s.offerRecord b.stamp (.timer t k (s.timers.get k).elapsed (s.timers.get k).running)) := by
  simp [act, h, actTimerCapture, hk, State.burstStamp_of_burst hb]

theorem act_timerStart {k : Fin 4} (h : e.kind = .timerStart) (hk : e.target = k) :
    act t e s = some (s.withTimers (s.timers.set k ⟨true, 0⟩)) := by
  simp [act, h, actTimerStart, hk]

theorem act_timerStop {k : Fin 4} (h : e.kind = .timerStop) (hk : e.target = k) :
    act t e s = some (s.withTimers (s.timers.modify k TimerRt.halt)) := by
  simp [act, h, actTimerStop, hk]

/-- A TIMER_CAPTURE later in the same burst sees the count that TIMER_START has just set (R34). -/
theorem act_timerCapture_after_timerStart {x : ActionEntry} {k : Fin 4} (hb : s.burst = some b)
    (hx : x.kind = .timerStart) (hxk : x.target = k) (he : e.kind = .timerCapture) (hek : e.target = k) :
    ∃ u, act t x s = some u ∧ act t e u = some (u.offerRecord b.stamp (.timer t k 0 true)) := by
  let u := s.withTimers (s.timers.set k ⟨true, 0⟩)
  have hu : u.burst = some b := hb
  have htimer : u.timers.get k = ⟨true, 0⟩ := s.timers.get_set_self k _
  refine ⟨u, act_timerStart t hx hxk, ?_⟩
  rw [act_timerCapture t hu he hek, htimer]

end Kinds

/-- Settles O35, by what each of the record actions answers. -/
theorem recordActionsOfferTheirRecords : Obligations.RecordActionsOfferTheirRecords := by
  intro s t e b hb
  exact ⟨act_mark t hb, fun _ => act_capture t hb, fun _ => act_timerCapture t hb,
    fun _ _ => act_timerCapture_after_timerStart t hb⟩

/-- Settles O36: the timer is halted, so it is not due, and nothing but the timers has changed. -/
theorem timerStopKeepsTheCount : Obligations.TimerStopKeepsTheCount := by
  intro s t e k he hk
  let s' := s.withTimers (s.timers.modify k TimerRt.halt)
  have htimer : s'.timers.get k = (s.timers.get k).halt := s.timers.get_modify_self k _
  have hdue : s'.timerDue k = false := State.timerDue_of_stopped (by rw [htimer]; rfl)
  exact ⟨s', act_timerStop t he hk, htimer, hdue, rfl, fun h => htimer.trans (TimerRt.halt_of_stopped h)⟩

end Machine

end Sys2Proof
end

section
/-! SUPPORT. What an evaluation of a watch makes of its truth, said once for each test, and the two statements about it. -/

namespace Sys2Proof.Machine

/-- Leaving UNKNOWN is no edge (R48, R49). -/
@[simp] theorem edgeOf_unknown (t : Truth) : edgeOf .unknown t = none := rfl

section Evaluation

variable {e : WatchEntry} {w : WatchRt} {m : Sample}

/-- Out of UNKNOWN or FALSE, the condition for becoming TRUE alone decides (R46, R48). -/
theorem WatchRt.evaluate_of_ne_isTrue (hw : w.truth ≠ .isTrue) :
    w.evaluate e m = { w with truth := if becomesTrue e w m then .isTrue else .isFalse } := by
  obtain ⟨truth, a, b⟩ := w
  cases truth with
  | unknown => rfl
  | isFalse => simp only [evaluate]; split <;> rfl
  | isTrue => exact absurd rfl hw

/-- Out of TRUE, the condition for becoming FALSE alone decides (R46). -/
theorem WatchRt.evaluate_of_isTrue (hw : w.truth = .isTrue) :
    w.evaluate e m = { w with truth := if becomesFalse e w m then .isFalse else .isTrue } := by
  obtain ⟨truth, a, b⟩ := w
  subst hw
  simp only [evaluate]
  split <;> rfl

@[simp] theorem WatchRt.evaluate_a : (w.evaluate e m).a = w.a := by
  by_cases hw : w.truth = .isTrue
  · rw [evaluate_of_isTrue hw]
  · rw [evaluate_of_ne_isTrue hw]

@[simp] theorem WatchRt.evaluate_b : (w.evaluate e m).b = w.b := by
  by_cases hw : w.truth = .isTrue
  · rw [evaluate_of_isTrue hw]
  · rw [evaluate_of_ne_isTrue hw]

/-- The truth after an evaluation out of UNKNOWN or FALSE, with the condition `P` of Figure 3-3 and its opposite `Q` spelt out. -/
theorem WatchRt.truth_evaluate_of_ne_isTrue {P Q : Prop} (hw : w.truth ≠ .isTrue) (hP : becomesTrue e w m = true ↔ P)
    (hQ : ¬ P ↔ Q) : ((w.evaluate e m).truth = .isTrue ↔ P) ∧ ((w.evaluate e m).truth = .isFalse ↔ Q) := by
  rw [evaluate_of_ne_isTrue hw, ← hQ, ← hP]
  cases becomesTrue e w m <;> simp

/-- The same out of TRUE. -/
theorem WatchRt.truth_evaluate_of_isTrue {P Q : Prop} (hw : w.truth = .isTrue) (hP : becomesFalse e w m = true ↔ P)
    (hQ : ¬ P ↔ Q) : ((w.evaluate e m).truth = .isFalse ↔ P) ∧ ((w.evaluate e m).truth = .isTrue ↔ Q) := by
  rw [evaluate_of_isTrue hw, ← hQ, ← hP]
  cases becomesFalse e w m <;> simp

/-! The rows of Figure 3-3: each test with the band in which it becomes TRUE and the band in which it becomes FALSE. -/

theorem WatchRt.above_of_ne_isTrue (hw : w.truth ≠ .isTrue) (ht : e.test = .above) :
    ((w.evaluate e m).truth = .isTrue ↔ w.a.toInt ≤ projected m e.lead)
    ∧ ((w.evaluate e m).truth = .isFalse ↔ projected m e.lead < w.a.toInt) :=
  truth_evaluate_of_ne_isTrue hw (by simp [becomesTrue, ht]) Int.not_le

theorem WatchRt.above_of_isTrue (hw : w.truth = .isTrue) (ht : e.test = .above) :
    ((w.evaluate e m).truth = .isFalse ↔ projected m e.lead < w.a.toInt - e.hysteresis)
    ∧ ((w.evaluate e m).truth = .isTrue ↔ w.a.toInt - e.hysteresis ≤ projected m e.lead) :=
  truth_evaluate_of_isTrue hw (by simp [becomesFalse, ht]) Int.not_lt

theorem WatchRt.below_of_ne_isTrue (hw : w.truth ≠ .isTrue) (ht : e.test = .below) :
    ((w.evaluate e m).truth = .isTrue ↔ projected m e.lead ≤ w.a.toInt)
    ∧ ((w.evaluate e m).truth = .isFalse ↔ w.a.toInt < projected m e.lead) :=
  truth_evaluate_of_ne_isTrue hw (by simp [becomesTrue, ht]) Int.not_le

theorem WatchRt.below_of_isTrue (hw : w.truth = .isTrue) (ht : e.test = .below) :
    ((w.evaluate e m).truth = .isFalse ↔ w.a.toInt + e.hysteresis < projected m e.lead)
    ∧ ((w.evaluate e m).truth = .isTrue ↔ projected m e.lead ≤ w.a.toInt + e.hysteresis) :=
  truth_evaluate_of_isTrue hw (by simp [becomesFalse, ht]) Int.not_lt

theorem WatchRt.inside_of_ne_isTrue (hw : w.truth ≠ .isTrue) (ht : e.test = .inside) :
    ((w.evaluate e m).truth = .isTrue ↔ w.a.toInt ≤ projected m e.lead ∧ projected m e.lead ≤ w.b.toInt)
    ∧ ((w.evaluate e m).truth = .isFalse ↔ projected m e.lead < w.a.toInt ∨ w.b.toInt < projected m e.lead) :=
  truth_evaluate_of_ne_isTrue hw (by simp [becomesTrue, ht]) (by omega)

theorem WatchRt.inside_of_isTrue (hw : w.truth = .isTrue) (ht : e.test = .inside) :
    ((w.evaluate e m).truth = .isFalse ↔
      projected m e.lead < w.a.toInt - e.hysteresis ∨ w.b.toInt + e.hysteresis < projected m e.lead)
    ∧ ((w.evaluate e m).truth = .isTrue ↔
      w.a.toInt - e.hysteresis ≤ projected m e.lead ∧ projected m e.lead ≤ w.b.toInt + e.hysteresis) :=
  truth_evaluate_of_isTrue hw (by simp [becomesFalse, ht]) (by omega)

theorem WatchRt.outside_of_ne_isTrue (hw : w.truth ≠ .isTrue) (ht : e.test = .outside) :
    ((w.evaluate e m).truth = .isTrue ↔ projected m e.lead < w.a.toInt ∨ w.b.toInt < projected m e.lead)
    ∧ ((w.evaluate e m).truth = .isFalse ↔ w.a.toInt ≤ projected m e.lead ∧ projected m e.lead ≤ w.b.toInt) :=
  truth_evaluate_of_ne_isTrue hw (by simp [becomesTrue, ht]) (by omega)

theorem WatchRt.outside_of_isTrue (hw : w.truth = .isTrue) (ht : e.test = .outside) :
    ((w.evaluate e m).truth = .isFalse ↔
      w.a.toInt + e.hysteresis ≤ projected m e.lead ∧ projected m e.lead ≤ w.b.toInt - e.hysteresis)
    ∧ ((w.evaluate e m).truth = .isTrue ↔
      projected m e.lead < w.a.toInt + e.hysteresis ∨ w.b.toInt - e.hysteresis < projected m e.lead) :=
  truth_evaluate_of_isTrue hw (by simp [becomesFalse, ht]) (by omega)

/-- The condition of a bit test is the test in the words of R45. -/
theorem becomesTrue_iff_bitTestHolds (he : e.test.magnitude = false) :
    becomesTrue e w m = true ↔ bitTestHolds e.test m.raw (w.a.truncate 32) := by
  cases ht : e.test with
  | above | below | inside | outside => simp [ht, WatchTest.magnitude] at he
  | bitsAll | bitsAny | bitsNone => simp [becomesTrue, bitTestHolds, ht]

/-- A bit test has no hysteresis: its second condition is the first one's opposite (R47). -/
theorem becomesFalse_of_bit_test (he : e.test.magnitude = false) : becomesFalse e w m = !becomesTrue e w m := by
  cases ht : e.test with
  | above | below | inside | outside => simp [ht, WatchTest.magnitude] at he
  | bitsAll | bitsAny | bitsNone => simp [becomesFalse, ht]

/-- Whatever the truth was, a bit test's evaluation shows whether the test holds (R47, R48). -/
theorem WatchRt.truth_evaluate_of_bit_test (he : e.test.magnitude = false) :
    ((w.evaluate e m).truth = .isTrue ↔ bitTestHolds e.test m.raw (w.a.truncate 32))
    ∧ ((w.evaluate e m).truth = .isFalse ↔ ¬ bitTestHolds e.test m.raw (w.a.truncate 32)) := by
  have hholds := becomesTrue_iff_bitTestHolds (w := w) (m := m) he
  by_cases hw : w.truth = .isTrue
  · have hfails : becomesFalse e w m = true ↔ ¬ bitTestHolds e.test m.raw (w.a.truncate 32) := by
      rw [becomesFalse_of_bit_test he, ← hholds]
      simp
    exact (truth_evaluate_of_isTrue hw hfails not_not).symm
  · exact truth_evaluate_of_ne_isTrue hw hholds Iff.rfl

end Evaluation

/-- Settles O29, by the rows of Figure 3-3: the rows out of FALSE serve the priming out of UNKNOWN as well. -/
theorem magnitudeTestsByFigure : Obligations.MagnitudeTestsByFigure := by
  intro e w m v a b h t
  have not_true_of_isFalse (hw : w.truth = .isFalse) : w.truth ≠ .isTrue := by simp [hw]
  have not_true_of_unknown (hw : w.truth = .unknown) : w.truth ≠ .isTrue := by simp [hw]
  have primed (hw : w.truth = .unknown) : edgeOf w.truth t.truth = none := by rw [hw, edgeOf_unknown]
  exact ⟨WatchRt.evaluate_a, WatchRt.evaluate_b,
    fun hw => WatchRt.above_of_ne_isTrue (not_true_of_isFalse hw), WatchRt.above_of_isTrue,
    fun hw => WatchRt.below_of_ne_isTrue (not_true_of_isFalse hw), WatchRt.below_of_isTrue,
    fun hw => WatchRt.inside_of_ne_isTrue (not_true_of_isFalse hw), WatchRt.inside_of_isTrue,
    fun hw => WatchRt.outside_of_ne_isTrue (not_true_of_isFalse hw), WatchRt.outside_of_isTrue,
    fun hw => ⟨primed hw,
      WatchRt.above_of_ne_isTrue (not_true_of_unknown hw), WatchRt.below_of_ne_isTrue (not_true_of_unknown hw),
      WatchRt.inside_of_ne_isTrue (not_true_of_unknown hw), WatchRt.outside_of_ne_isTrue (not_true_of_unknown hw)⟩⟩

/-- Settles O30: the truth after the evaluation is the test's own, so a toggle shows as the edge between the two truths. -/
theorem bitTestsFollowTheirBits : Obligations.BitTestsFollowTheirBits := by
  intro e w m he t mask
  obtain ⟨true_iff_holds, false_iff_fails⟩ : (t.truth = .isTrue ↔ bitTestHolds e.test m.raw mask)
      ∧ (t.truth = .isFalse ↔ ¬ bitTestHolds e.test m.raw mask) := WatchRt.truth_evaluate_of_bit_test he
  refine ⟨true_iff_holds.mpr, false_iff_fails.mpr, WatchRt.evaluate_a, WatchRt.evaluate_b,
    fun holds hw => ?rise, fun fails hw => ?fall, fun hw => ?primed⟩
  case rise => rw [hw, true_iff_holds.mpr holds]; rfl
  case fall => rw [hw, false_iff_fails.mpr fails]; rfl
  case primed => rw [hw, edgeOf_unknown]

end Sys2Proof.Machine
end

section
/-! SUPPORT. What a step is made of: the effects that one block has on the part between two moments at which every block is in
order, and a step as a succession of them. An invariant of the steps is then an invariant of each effect. -/

namespace Sys2Proof.Machine

/-- A firing is in hand or can begin: the engine is RUNNING, or firings stand in the burst (which a quiet part has in RUNNING
alone). -/
def State.Acts (s : State) : Prop :=
  s.engine = .running ∨ ∃ b, s.burst = some b ∧ ¬ (b.pending = [] ∧ b.firing = none)

/-- One effect on the part. A field that no rule restricts takes any value; another carries what its invariants need. The index
says whether the effect may touch what waits at the Agent, and the burst that it waits on: an effect of any index leaves them. -/
inductive Effect : Bool → State → State → Prop
  | link {w} (s : State) (x : Link) : Effect w s (s.withLink x)
  | tracker {w} (s : State) (x : Tracker) : Effect w s (s.withTracker x)
  | agent (s : State) (x : Agent) : Effect true s (s.withAgent x)
  | session {w} (s : State) (x : Option Session) (c : Option Cached) :
      Effect w s (s.withAgent { s.agent with session := x, cache := c })
  | stopTaken {w} (s : State) : Effect w s (s.withAgent { s.agent with stopClaim := false })
  | queue {w} (s : State) (x : List Instr) : Effect w s (s.withPending x)
  | free {w} (s : State) (x : Nat) : Effect w s (s.withFreeIdx x)
  | outputs {w} (s : State) (x : Tab OutputRt 8) : Effect w s (s.withOutputs x)
  | nanosecond {w} (s : State) : Effect w s (s.withNow (s.now + 1))
  | count {w} (s : State) (c : Counter) (n : Nat) : Effect w s (s.bumpBy c n)
  | clearCounters {w} (s : State) : Effect w s s.clearCounters
  | flags {w} (s : State) (x : Tab FaultPlace 6) (h : ∀ k, (x.get k).raises = (s.faults.get k).raises) :
      Effect w s (s.withFaults x)
  | raise {w} (s : State) (k : Fin 6) (d : Nat) : Effect w s (s.raiseFault k d)
  | record {w} (s : State) (st : Stamp) (b : RecordBody) : Effect w s (settle s (s.offerRecord st b))
  | run {w} (s : State) : Effect w s (s.withEngine .running)
  | stop {w} (s : State) : Effect w s s.stopEngine
  | intake {w} (s : State) (x : List Event) (h : x.length ≤ max 16 s.intake.length) : Effect w s (s.withIntake x)
  | forward {w} (s : State) (x : Forward) (h : x.frames.length ≤ max 8 s.forward.frames.length) : Effect w s (s.withForward x)
  | banks {w} (s : State) (x : Banks) (h : x.active = s.banks.active) : Effect w s (s.withBanks x)
  | accepted {w} (s : State) (k : Fin 4) :
      Effect w s (s.withInputs (s.inputs.set k { s.inputs.get k with accepted := (s.inputs.get k).pin, since := none }))
  | pin {w} (s : State) (k : Fin 4) (high : Bool) : Effect w s (s.withInputs (s.inputs.modify k (InputRt.pinTo s.now high)))
  | timers {w} (s : State) (x : Tab TimerRt 4) (h : ∀ k, (x.get k).running = true → s.Acts ∨ (s.timers.get k).running = true) :
      Effect w s (s.withTimers x)
  | patches {w} (s : State) (x : Tab PatchRt 16) (h : ∀ i, (x.get i).armed = true → s.Acts ∨ (s.patches.get i).armed = true) :
      Effect w s (s.withPatches x)
  | triggers {w} (s : State) (x : Tab TriggerRt 48)
      (h : ∀ t, (x.get t).armed = true → s.Acts ∨ s.engine ≠ .disarmed ∨ (s.triggers.get t).armed = true) :
      Effect w s (s.withTriggers x)
  | burst {w} (s : State) (b : Burst)
      (room : b.pending.length ≤ 64 ∨ ∃ a, s.burst = some a ∧ b.pending.length ≤ a.pending.length)
      (quiet : s.Acts ∨ b.pending = [] ∧ b.firing = none) : Effect w s (s.withBurst (some b))
  | ended (s : State) : Effect true s (s.withBurst none)
  | channels {w} (s : State) (x : Tab ChannelRt 32)
      (h : ∀ i, (s.channels.get i).current.isSome = true → (x.get i).current.isSome = true
        ∨ (∀ j, (s.banks.active.watches.get j).channel = i → (s.watches.get j).truth = .unknown)
          ∧ ∀ k, (s.banks.active.trains.get k).channel = i → (s.trains.get k).state = .idle) : Effect w s (s.withChannels x)
  | watches {w} (s : State) (x : Tab WatchRt 64)
      (h : ∀ j, (x.get j).truth ≠ .unknown → (s.watches.get j).truth ≠ .unknown
        ∨ (s.channels.get (s.banks.active.watches.get j).channel).current.isSome = true) : Effect w s (s.withWatches x)
  | trains {w} (s : State) (x : Tab TrainRt 8)
      (h : ∀ k, (x.get k).state ≠ .idle → (s.trains.get k).state ≠ .idle
        ∨ s.Acts ∧ (s.channels.get (s.banks.active.trains.get k).channel).current.isSome = true) : Effect w s (s.withTrains x)
  | closeCounted {w} (s : State) (limit : Nat) : Effect w s (s.withReport (s.report.countClose limit))
  | acknowledged {w} (s : State) (l : List (BitVec 16)) : Effect w s (s.withReport (s.report.remove l))
  | drained {w} (s : State) (n : Nat) (h : s.report.state ≠ .active) :
      Effect w s (s.withReport { s.report with records := s.report.records.drop n })
  | resumed {w} (s : State) : Effect w s (s.withReport { s.report with state := .active, resend := 0 })
  | reverted {w} (s : State) (n : Nat) (st : ReporterState) :
      Effect w s (s.withReport { s.report.revert with resend := n, state := st })
  | built {w} (s : State) (n : Nat) (active : s.report.state = .active) (window : s.report.outstanding.length < 4) :
      Effect w s (s.withReport (s.report.build n))
  | swapBanks {w} (s : State) : Effect w s s.swapBanks
  | reset (s : State) (k : Banks) : Effect true s ((s.withBanks k).engineReset)
  | deviceReset (s : State) (a : Byte) (tin : BitVec 4) : Effect true s (s.afterReset a tin)

/-- `t` comes of `s` by effects one after the other. -/
abbrev Reaches (w : Bool) : State → State → Prop := Relation.ReflTransGen (Effect w)

variable {w : Bool}

/-- What every effect keeps, a succession of effects keeps. -/
theorem Reaches.keeps {P : State → Prop} (h : ∀ s t, Effect w s t → P s → P t) {s t : State} (r : Reaches w s t) (hs : P s) :
    P t := by
  induction r with
  | refl => exact hs
  | tail _ e ih => exact h _ _ e ih

theorem Effect.reaches {s t : State} (e : Effect w s t) : Reaches w s t := .single e

variable {s t u : State}

theorem State.Acts.of_running (h : s.engine = .running) : s.Acts := .inl h

theorem State.Acts.of_firing {b : Burst} {f : Firing} (hb : s.burst = some b) (hf : b.firing = some f) : s.Acts :=
  .inr ⟨b, hb, by simp [hf]⟩

theorem State.Acts.of_pending {b : Burst} {e : Entry} {l : List Entry} (hb : s.burst = some b) (hp : b.pending = e :: l) :
    s.Acts := .inr ⟨b, hb, by simp [hp]⟩

theorem settle_of_engine_eq (h : t.engine = s.engine) : settle s t = t := by
  unfold settle
  split
  · rename_i hs
    exact absurd (h.trans hs.1) hs.2
  · rfl

/-- Settling looks at the engine alone of the state before. -/
theorem settle_congr (h : u.engine = s.engine) : settle s t = settle u t := by simp only [settle, h]

/-! Counts, events and frames. -/

theorem reaches_bump (s : State) (c : Counter) : Reaches w s (s.bump c) := (Effect.count s c 1).reaches

theorem reaches_spend (s : State) : Reaches w s s.spend := (Effect.free s _).reaches

theorem reaches_overList {α : Type} {f : State → α → State} (h : ∀ s a, Reaches w s (f s a)) (s : State) (l : List α) :
    Reaches w s (overList f s l) := by
  induction l generalizing s with
  | nil => exact .refl
  | cons a l ih => exact (h s a).trans (ih (f s a))

theorem reaches_releaseEvent (s : State) (e : Event) : Reaches w s (s.releaseEvent e) := by
  unfold State.releaseEvent
  split
  · exact (Effect.forward s _ (by simp [Forward.release])).reaches
  · exact .refl

theorem reaches_dropEvent (s : State) (e : Event) : Reaches w s (s.dropEvent e) :=
  ((reaches_bump s _).tail (.raise _ _ _)).trans (reaches_releaseEvent _ e)

theorem reaches_appendEvent (e : Event) (h : s.intake.length < 16) : Reaches w s (s.appendEvent e) :=
  (Effect.intake s _ (by simp; omega)).reaches

theorem reaches_offerOrdinary (s : State) (e : Event) : Reaches w s (s.offerOrdinary e) := by
  unfold State.offerOrdinary
  split
  · rename_i h; exact reaches_appendEvent e h
  · exact reaches_dropEvent s e

/-- The queue that the newest ordinary event leaves has one event less (R6). -/
theorem length_takeNewest {l m : List Event} {d : Event} (h : takeNewest l = some (d, m)) : m.length + 1 = l.length := by
  obtain ⟨a, b, rfl, -, -, rfl⟩ := (takeNewest_spec l).1 d m h
  simp; omega

/-! What a fault does does not look at the Intake Queue. -/

section Commute

variable (s : State) (l : List Event)

theorem disarmFor_withIntake (k : Fin 6) : (s.withIntake l).disarmFor k = (s.disarmFor k).withIntake l := by
  unfold State.disarmFor
  rw [apply_ite (State.withIntake · l)]
  rfl

theorem offerRecord_withIntake (st : Stamp) (b : RecordBody) :
    (s.withIntake l).offerRecord st b = (s.offerRecord st b).withIntake l := by
  simp only [State.offerRecord, State.lose, State.offerLoss, ← disarmFor_withIntake, apply_ite (State.withIntake · l)]
  rfl

theorem raiseRaw_withIntake (k : Fin 6) (d : Nat) : (s.withIntake l).raiseRaw k d = (s.raiseRaw k d).withIntake l := by
  simp only [State.raiseRaw, ← disarmFor_withIntake, ← offerRecord_withIntake, apply_ite (State.withIntake · l)]
  rfl

theorem raiseFault_withIntake (k : Fin 6) (d : Nat) : (s.withIntake l).raiseFault k d = (s.raiseFault k d).withIntake l := by
  simp only [State.raiseFault, settle, State.cleanup, raiseRaw_withIntake, apply_ite (State.withIntake · l)]
  rfl

theorem dropEvent_withIntake (e : Event) : (s.withIntake l).dropEvent e = (s.dropEvent e).withIntake l := by
  have raised := raiseFault_withIntake (s.bump .intakeDrop) l eventOverrun e.code
  have released (u : State) : (u.withIntake l).releaseEvent e = (u.releaseEvent e).withIntake l := by cases e <;> rfl
  exact (congrArg (State.releaseEvent · e) raised).trans (released _)

end Commute

/-- Making room in a full queue for a cycle event is dropping another event (R6). -/
theorem reaches_offerCycle (s : State) (e : Event) : Reaches w s (s.offerCycle e) := by
  unfold State.offerCycle
  split
  · rename_i h; exact reaches_appendEvent e h
  · split
    · rename_i d l hd
      have hlen := length_takeNewest hd
      rw [dropEvent_withIntake]
      exact (reaches_dropEvent s d).tail (.intake _ (l ++ [e]) (by simp; omega))
    · exact reaches_dropEvent s e

/-! The Forward Buffer. -/

theorem reaches_overrun (s : State) (f : Frame) : Reaches w s (s.overrun f) :=
  ((reaches_bump s _).tail (.raise _ _ _)).trans (reaches_spend _)

theorem reaches_appendFrame (f : Frame) (held : Bool) (h : s.bufferRoom = true) : Reaches w s (s.appendFrame f held) := by
  have room : s.forward.frames.length < 8 := by simpa [State.bufferRoom] using h
  exact (Effect.forward s _ (by simp; omega)).reaches

theorem reaches_enter (s : State) (f : Frame) : Reaches w s (s.enter f) := by
  unfold State.enter
  split
  · rename_i h; exact reaches_appendFrame f false h
  · exact reaches_overrun s f

theorem reaches_enterAnd {given : State → State} (h : ∀ u, Reaches w u (given u)) (s : State) (f : Frame) :
    Reaches w s (s.enterAnd f given) := by
  cases room : s.bufferRoom with
  | true => rw [enterAnd_room f given room]; exact (reaches_appendFrame f false room).trans (h _)
  | false =>
    obtain first | last := enterAnd_full s f given room
    · rw [first]; exact (reaches_overrun s f).trans (h _)
    · rw [last]; exact (h s).trans (reaches_overrun _ f)

/-! The Cycle Tracker. -/

theorem reaches_advanceClose (s : State) : Reaches w s s.advanceClose :=
  (Effect.closeCounted s _).reaches.tail (.session _ _ s.agent.cache)

theorem reaches_closeSegment (s : State) : Reaches w s s.closeSegment :=
  (((Effect.tracker s _).reaches.tail (.link _ _)).trans (reaches_offerCycle _ _)).trans (reaches_advanceClose _)

theorem reaches_impliedClose (s : State) : Reaches w s s.impliedClose := (reaches_bump s _).trans (reaches_closeSegment _)

theorem reaches_bump_if (s : State) (c : Counter) (p : Prop) [Decidable p] : Reaches w s (if p then s.bump c else s) := by
  split
  · exact reaches_bump s c
  · exact .refl

theorem reaches_if_bump (s : State) (p : Prop) [Decidable p] (c : Counter) : Reaches w s (if p then s else s.bump c) := by
  split
  · exact .refl
  · exact reaches_bump s c

theorem reaches_takeClose (s : State) (number : BitVec 16) : Reaches w s (s.takeClose number) := by
  unfold State.takeClose
  split
  · exact (reaches_bump_if s _ _).trans (reaches_closeSegment _)
  · exact reaches_bump s _
  · exact .refl

theorem reaches_startAs (s : State) (k : TrackerState) (ord : BitVec 48) (number : BitVec 16) (period : Nat) :
    Reaches w s (s.startAs k ord number period) := (Effect.tracker s _).reaches

theorem reaches_countStart (s : State) (ahead number : BitVec 16) (period : Nat) :
    Reaches w s (s.countStart ahead number period) := by
  unfold State.countStart
  split
  · exact .refl
  · exact (reaches_if_bump s _ .cycleSlip).trans (reaches_if_bump _ _ .periodChange)

theorem reaches_startEvent (s : State) (number : BitVec 16) : Reaches w s (s.startEvent number) := reaches_offerCycle s _

theorem reaches_startCycle (s : State) (n : Nat) (number : BitVec 16) (period : Nat) :
    Reaches w s (s.startCycle n number period) := by
  unfold State.startCycle
  simp only []
  refine Relation.ReflTransGen.trans ?_ (reaches_startEvent _ number)
  split
  · exact (reaches_countStart s _ _ _).trans (reaches_startAs ..)
  · exact ((reaches_countStart s _ _ _).trans (reaches_startAs ..)).trans (reaches_spend _)

theorem reaches_takeStart (s : State) (number : BitVec 16) (period : Nat) : Reaches w s (s.takeStart number period) := by
  unfold State.takeStart
  split
  · exact reaches_startAs ..
  · exact reaches_startAs ..
  · split
    · exact (reaches_startAs ..).trans (reaches_startEvent _ _)
    · exact reaches_startAs ..
  · exact reaches_startCycle ..
  · exact (reaches_impliedClose s).trans (reaches_startCycle ..)
  · exact reaches_startCycle ..

theorem reaches_enterLost (s : State) (d : Nat) : Reaches w s (s.enterLost d) :=
  ((Effect.tracker s _).reaches.trans (reaches_offerCycle _ _)).tail (.raise _ _ _)

theorem reaches_trackerExpires (s : State) (at_ : Nat) : Reaches w s (s.trackerExpires at_) := by
  unfold State.trackerExpires
  split
  · exact (Effect.tracker s _).reaches
  · exact (reaches_impliedClose s).tail (.tracker _ _)
  · exact (Effect.tracker s _).reaches
  · exact reaches_enterLost s 1
  · exact .refl
  · exact .refl

theorem reaches_trackerLosesLink (s : State) : Reaches w s s.trackerLosesLink := by
  unfold State.trackerLosesLink
  split
  · exact reaches_enterLost s 2
  · exact reaches_enterLost s 2
  · exact (Effect.tracker s _).reaches
  · exact .refl
  · exact .refl

/-! The ports and the frames that come in. -/

theorem reaches_withPort (s : State) (p : Port) (r : PortRt) : Reaches w s (s.withPort p r) := by
  cases p <;> exact (Effect.link s _).reaches

theorem reaches_portLeft (s : State) (p : Port) (d : Nat) : Reaches w s (s.portLeft p d) := by
  cases p with
  | inbound => exact (Effect.raise s _ _).reaches.trans (reaches_trackerLosesLink _)
  | outbound => exact (Effect.link s _).reaches

theorem reaches_receiveWords (s : State) (p : Port) (words : List LineWord) : Reaches w s (s.receiveWords p words) := by
  unfold State.receiveWords
  simp only []
  split
  · exact (reaches_withPort s p _).trans (reaches_portLeft _ p 2)
  · exact reaches_withPort s p _

theorem reaches_hearFrame (s : State) (f : Frame) : Reaches w s (s.hearFrame f) := reaches_withPort s .inbound _

theorem reaches_receive (s : State) (f : Frame) : Reaches w s (s.receive f) := (reaches_hearFrame s f).trans (reaches_bump _ _)

theorem reaches_onFrame {run : FrameView → State → State} (h : ∀ v u, Reaches w u (run v u)) (f : Frame)
    (mine : FrameView → Bool) (s : State) : Reaches w s (onFrame f mine run s) := by
  unfold onFrame
  split
  · split
    · split
      · exact (reaches_receive s f).trans (h _ _)
      · exact .refl
    · exact .refl
  · exact reaches_hearFrame s f

theorem reaches_takeProcess (s : State) (f : Frame) (v : FrameView) : Reaches w s (s.takeProcess f v) := by
  unfold State.takeProcess
  split
  · split
    · rename_i h
      exact (reaches_appendFrame f true (by simp_all)).trans (reaches_offerOrdinary _ _)
    · exact reaches_enter s f
  · exact (reaches_bump s _).trans (reaches_enter _ f)

theorem reaches_takeRequest (s : State) (v : FrameView) : Reaches true s (s.takeRequest v) := by
  unfold State.takeRequest
  split
  · exact (Effect.agent s _).reaches
  · exact reaches_bump s _

theorem reaches_takeStopClaim (s : State) : Reaches w s s.takeStopClaim := by
  unfold State.takeStopClaim
  split
  · exact (Effect.stopTaken s).reaches.tail (.stop _)
  · exact .refl

theorem reaches_takeBroadcast (s : State) (q : Request) : Reaches true s (s.takeBroadcast q) := by
  unfold State.takeBroadcast
  split
  · unfold State.broadcastStop
    simp only []
    split
    · exact (Effect.agent s _).reaches
    · exact (Effect.agent s _).reaches.trans (reaches_takeStopClaim _)
  · exact reaches_bump s _

/-! What the Outbound port sends. -/

theorem reaches_finishSending (s : State) : Reaches w s s.finishSending := by
  unfold State.finishSending
  split
  · exact (Effect.link s _).reaches
  · exact .refl

theorem reaches_transmit (s : State) (f : Frame) : Reaches w s (s.transmit f) := by
  unfold State.transmit
  split
  · exact (Effect.link s _).reaches
  · exact reaches_bump s _

theorem reaches_countInsertion (s : State) : Reaches w s s.countInsertion := by
  unfold State.countInsertion
  split
  · exact (Effect.link s _).reaches
  · exact .refl

/-! Time and the input pins. -/

theorem reaches_expireTimer (h : s.timerDue k = true) : Reaches w s (s.expireTimer k) := by
  have running : (s.timers.get k).running = true := by simp_all [State.timerDue]
  refine (Effect.timers s _ fun j hj => ?_).reaches.trans (reaches_offerOrdinary _ _)
  rw [Tab.get_set] at hj
  split at hj
  · rename_i hk
    exact .inr (Fin.ext hk ▸ running)
  · exact .inr hj

theorem reaches_acceptInput (s : State) (k : Fin 4) : Reaches w s (s.acceptInput k) := by
  unfold State.acceptInput
  simp only []
  split
  · exact (Effect.accepted s k).reaches.trans (reaches_offerOrdinary _ _)
  · exact (Effect.accepted s k).reaches

theorem reaches_shuffle {α : Type} (n : Nat) (s : State) (l : List α) : Reaches w s (shuffle n s l).1 := by
  induction n generalizing s l with
  | zero => exact .refl
  | succ n ih =>
    unfold shuffle
    split
    · exact .refl
    · exact (reaches_spend s).trans (ih _ _)

theorem reaches_acceptDue (s : State) : Reaches w s s.acceptDue := by
  unfold State.acceptDue
  simp only []
  split
  · exact reaches_overList reaches_acceptInput s _
  · exact (reaches_shuffle _ s _).trans (reaches_overList reaches_acceptInput _ _)

theorem reaches_swap (s : State) : Reaches w s s.swap := (Effect.swapBanks s).reaches.trans (reaches_acceptDue _)

theorem reaches_engineReset (s : State) : Reaches true s s.engineReset := (Effect.reset s s.banks).reaches

theorem reaches_configClear (s : State) : Reaches true s s.configClear := (Effect.reset s _).reaches.trans (reaches_acceptDue _)

theorem reaches_reportTimesOut (s : State) : Reaches w s s.reportTimesOut := by
  unfold State.reportTimesOut
  simp only []
  split
  · exact (Effect.reverted s (s.report.resend + 1) .halted).reaches.tail (.raise _ _ _)
  · exact (Effect.reverted s (s.report.resend + 1) s.report.state).reaches

theorem reaches_schedule (s : State) (l : List Instr) : Reaches w s (s.schedule l) := by
  unfold State.schedule
  split
  · exact (Effect.queue s _).reaches
  · exact (reaches_shuffle _ s l).tail (.queue _ _)

theorem reaches_countMicrosecond (s : State) : Reaches w s s.countMicrosecond := by
  refine (Effect.timers s _ fun k hk => ?_).reaches.tail (.outputs _ _)
  rw [Tab.get_mapIdx] at hk
  split at hk
  · exact .inr hk
  · exact .inr hk

theorem reaches_tick (s : State) : Reaches w s s.tick := by
  have passed : Reaches w s (s.withNow (s.now + 1)) := (Effect.nanosecond s).reaches
  unfold State.tick
  simp only []
  split
  · exact (passed.trans (reaches_countMicrosecond _)).trans (reaches_schedule _ _)
  · exact passed.trans (reaches_schedule _ _)

/-! The requests. -/

theorem reaches_answer (s : State) (q : Request) (status : Byte) (body : List Byte) : Reaches true s (s.answer q status body) :=
  (Effect.agent s _).reaches

theorem reaches_withAgent_answer (s : State) (g : Agent) (q : Request) (status : Byte) (body : List Byte) :
    Reaches true s ((s.withAgent g).answer q status body) := (Effect.agent s g).reaches.trans (reaches_answer _ q status body)

theorem reaches_serve {run : Request → State → State} (h : ∀ q u, Reaches true u (run q u)) (mine needs : Request → Bool)
    (s : State) : Reaches true s (serve mine needs run s) := by
  unfold serve
  split
  · exact .refl
  · split
    · simp only []
      split
      · exact (Effect.agent s _).reaches.tail (.free _ _)
      · split
        · exact (Effect.agent s _).reaches
        · split
          · exact reaches_withAgent_answer ..
          · split
            · split
              · exact (Effect.agent s _).reaches.trans (h _ _)
              · exact reaches_withAgent_answer ..
            · exact (Effect.agent s _).reaches.trans (h _ _)
    · exact .refl

theorem reaches_bare {run : Request → State → State} (h : ∀ q u, Reaches true u (run q u)) (q : Request) (s : State) :
    Reaches true s (bare run q s) := by
  unfold bare
  split
  · exact h q s
  · exact reaches_answer ..

theorem reaches_withTriggerSet {run : Request → State → State} (h : ∀ q u, Reaches true u (run q u)) (q : Request) (s : State) :
    Reaches true s (withTriggerSet run q s) := by
  unfold withTriggerSet
  split
  · exact reaches_answer ..
  · split
    · exact h q s
    · exact reaches_answer ..

theorem reaches_withStopClaim {take : State → State} (h : ∀ u, Reaches w u (take u)) (s : State) :
    Reaches w s (s.withStopClaim take) := by
  unfold State.withStopClaim
  refine Relation.ReflTransGen.trans ?_ (reaches_spend _)
  split
  · exact (reaches_takeStopClaim s).trans (h _)
  · exact (h s).trans (reaches_takeStopClaim _)

theorem reaches_claim {take : Request → State → State} (h : ∀ q u, Reaches true u (take q u)) (q : Request) (s : State) :
    Reaches true s (claim take q s) := by
  unfold claim
  split
  · exact (Effect.agent s _).reaches
  · split
    · exact reaches_withStopClaim (h q) s
    · exact h q s

theorem reaches_takeRun (q : Request) (s : State) : Reaches true s (takeRun q s) := by
  unfold takeRun
  split
  · exact reaches_answer ..
  · exact (Effect.run s).reaches.trans (reaches_answer ..)

theorem reaches_takeStop (q : Request) (s : State) : Reaches true s (takeStop q s) :=
  (Effect.stop s).reaches.trans (reaches_answer ..)

theorem reaches_takeReset (q : Request) (s : State) : Reaches true s (takeReset q s) :=
  (reaches_engineReset s).trans (reaches_answer ..)

theorem reaches_takeClear (q : Request) (s : State) : Reaches true s (takeClear q s) :=
  (reaches_configClear s).trans (reaches_answer ..)

/-- Triggers are armed by request outside DISARMED alone (R17). -/
theorem reaches_setTriggers (l : List Nat) (armed : Bool) (h : armed = true → s.engine ≠ .disarmed) :
    Reaches w s (s.setTriggers l armed) := by
  refine (Effect.triggers s _ fun t ht => ?_).reaches
  rw [Tab.get_mapIdx] at ht
  split at ht
  · exact .inr (.inl (h ht))
  · exact .inr (.inr ht)

theorem reaches_takeEnable (q : Request) (s : State) : Reaches true s (takeEnable q s) := by
  unfold takeEnable
  split
  · exact reaches_answer ..
  · rename_i h; exact (reaches_setTriggers _ true fun _ => h).trans (reaches_answer ..)

theorem reaches_takeDisable (q : Request) (s : State) : Reaches true s (takeDisable q s) :=
  (reaches_setTriggers _ false (by simp)).trans (reaches_answer ..)

theorem reaches_answerRuntime (q : Request) (s : State) : Reaches true s (answerRuntime q s) := by
  unfold answerRuntime
  split
  · split
    · exact reaches_answer ..
    · split <;> exact reaches_answer ..
  · exact reaches_answer ..

theorem reaches_finishCommit (q : Request) (s : State) : Reaches true s (finishCommit q s) :=
  (reaches_swap s).trans (reaches_answer ..)

theorem reaches_openSession (q : Request) (s : State) : Reaches true s (openSession q s) := by
  unfold openSession
  simp only []
  split
  · exact reaches_withAgent_answer ..
  · split
    · exact reaches_withAgent_answer ..
    · exact reaches_answer ..

theorem reaches_writeTable (q : Request) (s : State) : Reaches true s (writeTable q s) := by
  unfold writeTable
  split
  · exact reaches_answer ..
  · split
    · exact reaches_answer ..
    · split
      · exact (Effect.banks s _ (by rfl)).reaches.trans (reaches_answer ..)
      · exact reaches_answer ..

theorem reaches_readTable (q : Request) (s : State) : Reaches true s (readTable q s) := by
  unfold readTable
  split
  · split
    · exact reaches_answer ..
    · split
      · exact reaches_answer ..
      · split <;> exact reaches_answer ..
  · exact reaches_answer ..

theorem reaches_commitStaging (q : Request) (s : State) : Reaches true s (commitStaging q s) := by
  unfold commitStaging acceptCommit
  split
  · exact reaches_answer ..
  · split
    · exact reaches_answer ..
    · split
      · exact (Effect.banks s _ (by rfl)).reaches.trans (reaches_answer ..)
      · split
        · exact reaches_finishCommit q s
        · exact (Effect.agent s _).reaches

theorem reaches_dropCarry (s : State) : Reaches w s s.dropCarry := by
  unfold State.dropCarry
  cases hb : s.burst with
  | none => rw [Option.map_none, ← hb]; exact .refl
  | some b =>
    refine (Effect.burst s _ (.inr ⟨b, hb, by rfl⟩) ?_).reaches
    by_cases idle : b.pending = [] ∧ b.firing = none
    · exact .inr idle
    · exact .inl (.inr ⟨b, hb, idle⟩)

theorem reaches_abortCommit (q : Request) (s : State) : Reaches true s (abortCommit q s) := by
  unfold abortCommit
  split
  · exact ((Effect.banks s _ (by rfl)).reaches.trans (reaches_dropCarry _)).trans (reaches_answer ..)
  · exact reaches_answer ..

theorem reaches_fireTriggers (q : Request) (s : State) : Reaches true s (fireTriggers q s) := by
  unfold fireTriggers
  split
  · exact reaches_answer ..
  · split
    · rename_i h; exact (reaches_appendEvent _ h).trans (reaches_answer ..)
    · exact reaches_answer ..

theorem reaches_readRuntime (q : Request) (s : State) : Reaches true s (readRuntime q s) := by
  unfold readRuntime
  split
  · exact reaches_claim reaches_answerRuntime q s
  · exact reaches_answerRuntime q s

theorem reaches_ackReport (q : Request) (s : State) : Reaches true s (ackReport q s) := by
  unfold ackReport
  split
  · split
    · split
      · exact (Effect.acknowledged s _).reaches.trans (reaches_answer ..)
      · exact reaches_answer ..
    · exact reaches_answer ..
  · exact reaches_answer ..

theorem reaches_readReport (q : Request) (s : State) : Reaches true s (readReport q s) := by
  unfold readReport
  split
  · split
    · split
      · exact reaches_answer ..
      · rename_i h; exact (Effect.drained s _ h).reaches.trans (reaches_answer ..)
    · exact reaches_answer ..
  · exact reaches_answer ..

theorem reaches_resumeReport (q : Request) (s : State) : Reaches true s (resumeReport q s) := by
  unfold resumeReport
  split
  · exact (Effect.resumed s).reaches.trans (reaches_answer ..)
  · exact reaches_answer ..

theorem reaches_clearFaults (q : Request) (s : State) : Reaches true s (clearFaults q s) := by
  unfold clearFaults
  split
  · split
    · refine (Effect.flags s _ fun k => ?_).reaches.trans (reaches_answer ..)
      rw [Tab.get_mapIdx]
      split <;> rfl
    · exact reaches_answer ..
  · exact reaches_answer ..

theorem reaches_readCounters (q : Request) (s : State) : Reaches true s (readCounters q s) := by
  unfold readCounters
  split <;> exact reaches_answer ..

theorem reaches_readAndClearCounters (q : Request) (s : State) : Reaches true s (readAndClearCounters q s) :=
  (Effect.clearCounters s).reaches.trans (reaches_answer ..)

end Sys2Proof.Machine
end

section
/-! SUPPORT. The effects of a burst: the pending-firing list, the fifteen actions, the executor's steps, and the events taken. -/

namespace Sys2Proof.Machine

variable {s t u : State} {w : Bool}

/-! The pending-firing list. -/

theorem reaches_countMerged (s : State) (t : Fin 48) (n : Nat) : Reaches w s (s.countMerged t n) := by
  refine (Effect.triggers s _ fun i hi => .inr (.inr ?_)).reaches.tail (.count _ _ _)
  rw [Tab.get_modify] at hi
  split at hi
  · exact hi
  · exact hi

theorem reaches_addEntries (acts : s.Acts) (e : Entry) (n : Nat) : Reaches w s (s.addEntries e n) := by
  unfold State.addEntries
  split
  · exact .refl
  · rename_i b hb
    have added : Reaches w s (s.withBurst (some { b with
        pending := b.pending ++ List.replicate (min n (Config.pendingSize - b.pending.length)) e })) := by
      refine (Effect.burst s _ ?_ (.inl acts)).reaches
      by_cases full : 64 ≤ b.pending.length
      · exact .inr ⟨b, hb, by simp [Nat.sub_eq_zero_of_le full]⟩
      · exact .inl (by simp only [Config.pendingSize, List.length_append, List.length_replicate]; omega)
    simp only []
    split
    · exact added.trans (reaches_countMerged _ _ _)
    · exact added

theorem State.Acts.addEntries (acts : s.Acts) (e : Entry) (n : Nat) : (s.addEntries e n).Acts := by
  obtain running | ⟨b, hb, busy⟩ := acts
  · exact .inl (by simpa using running)
  · refine .inr ⟨_, (addEntries_pends hb e n).burst, fun idle => busy ⟨?_, idle.2⟩⟩
    exact (List.append_eq_nil_iff.mp idle.1).1

/-- A pass whose steps act while firings stand. -/
theorem reaches_overList_acts {α : Type} {f : State → α → State} (h : ∀ s a, s.Acts → Reaches w s (f s a) ∧ (f s a).Acts)
    (l : List α) (acts : s.Acts) : Reaches w s (overList f s l) ∧ (overList f s l).Acts := by
  induction l generalizing s with
  | nil => exact ⟨.refl, acts⟩
  | cons a l ih =>
    obtain ⟨here, acts'⟩ := h s a acts
    obtain ⟨there, acts''⟩ := ih acts'
    exact ⟨here.trans there, acts''⟩

theorem reaches_addMatches (l : Products) (t : Fin 48) (acts : s.Acts) :
    Reaches w s (s.addMatches l t) ∧ (s.addMatches l t).Acts := by
  refine reaches_overList_acts (fun s x acts => ?_) l acts
  split
  · exact ⟨reaches_addEntries acts _ _, acts.addEntries _ _⟩
  · exact ⟨.refl, acts⟩

theorem reaches_addProducts (l : Products) (acts : s.Acts) : Reaches w s (s.addProducts l) :=
  (reaches_overList_acts (fun _ t acts => reaches_addMatches l t acts) _ acts).1

theorem reaches_derive (x : Thing) (acts : s.Acts) : Reaches w s (s.derive x) := reaches_addProducts _ acts

theorem reaches_addNamed (m : BitVec 48) (acts : s.Acts) : Reaches w s (s.addNamed m) := by
  refine (reaches_overList_acts (fun s t acts => ?_) _ acts).1
  split
  · exact ⟨reaches_addEntries acts _ _, acts.addEntries _ _⟩
  · exact ⟨.refl, acts⟩

/-! The actions. Each comes to effects that leave the engine in its state, or offers a record. -/

/-- What an action of a firing comes to. -/
def ActsOn (w : Bool) (s u : State) : Prop := (Reaches w s u ∧ u.engine = s.engine) ∨ ∃ st b, u = s.offerRecord st b

theorem ActsOn.of_effect (e : Effect w s u) (h : u.engine = s.engine) : ActsOn w s u := .inl ⟨e.reaches, h⟩

theorem actPatch_actsOn {e : ActionEntry} (acts : s.Acts) (h : actPatch e s = some u) : ActsOn w s u := by
  unfold actPatch at h
  split at h <;> cases h
  rename_i i v _ _
  have armed : Effect w s (s.withPatches (s.patches.set i
      ((s.patches.get i).arm (s.banks.active.patches.get i).hold (v.truncate 32)))) := .patches s _ fun _ _ => .inl acts
  split
  · exact .inl ⟨armed.reaches.trans (reaches_bump _ _), rfl⟩
  · exact .of_effect armed rfl

/-- A loaded watch knows a truth only if it did before the load (R52). -/
theorem reaches_reevaluate (i : Fin 64) (r : WatchRt) (hr : r.truth = (s.watches.get i).truth) (acts : s.Acts) :
    Reaches w s (s.reevaluate i r) ∧ (s.reevaluate i r).engine = s.engine := by
  have stored (x : WatchRt) (h : x.truth ≠ .unknown → r.truth ≠ .unknown) :
      Reaches w s (s.withWatches (s.watches.set i x)) := by
    refine (Effect.watches s _ fun j hj => .inl ?_).reaches
    rw [Tab.get_set] at hj
    split at hj
    · rename_i hij
      rw [← Fin.ext hij, ← hr]
      exact h hj
    · exact hj
  unfold State.reevaluate
  simp only []
  split
  · exact ⟨stored r id, rfl⟩
  · exact ⟨stored r id, rfl⟩
  · rename_i known
    split
    · exact ⟨(stored _ fun _ => known).trans (reaches_derive _ acts), by simp⟩
    · exact ⟨stored _ fun _ => known, rfl⟩

theorem actThreshold_actsOn {e : ActionEntry} (acts : s.Acts) (h : actThreshold e s = some u) : ActsOn w s u := by
  unfold actThreshold at h
  split at h <;> [cases h; skip]
  simp only [] at h
  split at h <;> [cases h; skip]
  split at h <;> cases h
  refine .inl (reaches_reevaluate _ _ ?_ acts)
  unfold WatchRt.load
  split <;> rfl

/-- A rebase moves values alone (R74). -/
theorem ChannelRt.current_rebase_isSome (v : Ext) (c : ChannelRt) : (c.rebase v).current.isSome = c.current.isSome := by
  obtain ⟨value, misses, updated⟩ := c
  cases value with
  | unseen => rfl
  | seen f m => cases f <;> rfl

theorem TrainRt.state_shift (d : Ext) (r : TrainRt) : (r.shift d).state = r.state := by unfold shift; split <;> rfl

theorem actRebase_actsOn {e : ActionEntry} (h : actRebase e s = some u) : ActsOn w s u := by
  unfold actRebase at h
  split at h <;> [cases h; skip]
  rename_i c _
  obtain ⟨m, -, rfl⟩ := Option.map_eq_some_iff.mp h
  have moved : Effect w s (s.withChannels (s.channels.modify c (ChannelRt.rebase e.argument))) := by
    refine .channels s _ fun i hi => .inl ?_
    rw [Tab.get_modify]
    split
    · rw [ChannelRt.current_rebase_isSome, hi]
    · exact hi
  refine .inl ⟨(moved.reaches.tail (.trains _ _ fun k hk => .inl ?_)).tail (.watches _ _ fun w hw => .inl ?_), rfl⟩
  · rw [Tab.get_mapIdx] at hk
    split at hk
    · rwa [TrainRt.state_shift] at hk
    · exact hk
  · rw [Tab.get_mapIdx] at hw
    simp only [] at hw
    split at hw
    · split at hw
      · rename_i known
        simp only [Bool.and_eq_true, bne_iff_ne] at known
        exact known.2
      · exact hw
    · exact hw

theorem actTrainStart_actsOn {e : ActionEntry} (acts : s.Acts) (h : actTrainStart e s = some u) : ActsOn w s u := by
  unfold actTrainStart at h
  split at h <;> [cases h; skip]
  rename_i k _
  obtain ⟨m, hm, rfl⟩ := Option.map_eq_some_iff.mp h
  refine .inl ⟨(Effect.trains s _ fun j hj => ?_).reaches.trans (reaches_derive _ acts), by simp⟩
  rw [Tab.get_modify] at hj
  split at hj
  · rename_i hkj
    exact .inr ⟨acts, by rw [← hkj, hm]; rfl⟩
  · exact .inl hj

theorem actTrainStop_actsOn {e : ActionEntry} (acts : s.Acts) (h : actTrainStop e s = some u) : ActsOn w s u := by
  obtain ⟨k, -, rfl⟩ := Option.map_eq_some_iff.mp h
  have stopped : Effect w s (s.withTrains (s.trains.modify k TrainRt.stop)) := by
    refine .trains s _ fun j hj => .inl fun idle => ?_
    rw [Tab.get_modify] at hj
    split at hj
    · simp [TrainRt.stop, idle] at hj
    · exact hj idle
  split
  · exact .inl ⟨stopped.reaches.trans (reaches_derive _ acts), by simp⟩
  · exact .of_effect stopped rfl

theorem act_actsOn {i : Fin 48} {e : ActionEntry} (acts : s.Acts) (h : act i e s = some u) : ActsOn w s u := by
  cases hk : e.kind <;> simp only [act, hk] at h
  case patch => exact actPatch_actsOn acts h
  case threshold => exact actThreshold_actsOn acts h
  case rebase => exact actRebase_actsOn h
  case trainStart => exact actTrainStart_actsOn acts h
  case trainStop => exact actTrainStop_actsOn acts h
  case mark => cases h; exact .inr ⟨_, _, rfl⟩
  case capture | timerCapture => obtain ⟨c, -, rfl⟩ := Option.map_eq_some_iff.mp h; exact .inr ⟨_, _, rfl⟩
  case pulse | level => obtain ⟨j, -, rfl⟩ := Option.map_eq_some_iff.mp h; exact .of_effect (.outputs s _) rfl
  case unpatch =>
    obtain ⟨j, -, rfl⟩ := Option.map_eq_some_iff.mp h
    exact .of_effect (.patches s _ fun _ _ => .inl acts) rfl
  case timerStart | timerStop =>
    obtain ⟨j, -, rfl⟩ := Option.map_eq_some_iff.mp h
    exact .of_effect (.timers s _ fun _ _ => .inl acts) rfl
  case enable | disable =>
    obtain ⟨j, -, rfl⟩ := Option.map_eq_some_iff.mp h
    exact .of_effect (.triggers s _ fun _ _ => .inl acts) rfl

/-! The executor. -/

/-- A record that is offered at the end of an action, and the cleanup that may follow it (R27). -/
theorem reaches_settle_of_actsOn (h : Reaches w s u) (he : u.engine = s.engine) (a : ActsOn w u t) : Reaches w s (settle s t) := by
  obtain ⟨r, ht⟩ | ⟨st, b, rfl⟩ := a
  · rw [settle_of_engine_eq (ht.trans he)]
    exact h.trans r
  · rw [settle_congr he]
    exact h.tail (.record u st b)

/-- The burst in progress changes while its firings stand, its list getting no longer. -/
theorem reaches_putBurst {a b : Burst} (acts : s.Acts) (ha : s.burst = some a) (h : b.pending.length ≤ a.pending.length) :
    Reaches w s (s.putBurst b) :=
  (Effect.burst s b (.inr ⟨a, ha, h⟩) (.inl acts)).reaches

theorem runAction_actsOn (acts : s.Acts) (i : Fin 48) (n : Nat) : ActsOn w s (s.runAction i n) := by
  unfold State.runAction
  split
  · rename_i h
    obtain ⟨e, -, he⟩ := Option.bind_eq_some_iff.mp h
    exact act_actsOn acts he
  · exact .of_effect (.count s _ _) rfl

/-- A completing trigger is not armed by it (R1). -/
theorem reaches_complete (s : State) (i : Fin 48) (e : TriggerEntry) (st : Stamp) :
    Reaches w s (s.withTriggers (s.triggers.modify i (TriggerRt.complete e st))) := by
  refine (Effect.triggers s _ fun j hj => .inr (.inr ?_)).reaches
  rw [Tab.get_modify] at hj
  split at hj
  · exact (Bool.and_eq_true_iff.mp hj).1
  · exact hj

theorem reaches_settle_completeFiring (h : Reaches w s u) (he : u.engine = s.engine) (i : Fin 48) (leader : Entry)
    (ledBy : Option (Fin 48)) : Reaches w s (settle s (u.completeFiring i leader ledBy)) := by
  have completed := h.trans (reaches_complete u i (u.banks.active.triggers.get i) u.burstStamp)
  unfold State.completeFiring
  simp only []
  split
  · exact reaches_settle_of_actsOn completed he (.inr ⟨_, _, rfl⟩)
  · exact reaches_settle_of_actsOn completed he (.inl ⟨.refl, rfl⟩)

theorem reaches_examineMember {b : Burst} {f : Firing} (hb : s.burst = some b) (hf : b.firing = some f) (m : Fin 48)
    (rest : List (Fin 48)) : Reaches w s (s.examineMember b f m rest) := by
  have acts := State.Acts.of_firing hb hf
  unfold State.examineMember
  simp only []
  split
  · exact (reaches_putBurst acts hb (by simp)).trans (reaches_countMerged _ _ _)
  · split
    · exact reaches_putBurst acts hb (by simp)
    · exact reaches_putBurst acts hb (by simp)

theorem reaches_settle_stepFiring {b : Burst} {f : Firing} (hb : s.burst = some b) (hf : b.firing = some f) :
    Reaches w s (settle s (s.stepFiring b f)) := by
  have put (c : Burst) (h : c.pending = b.pending) : Reaches w s (s.putBurst c) :=
    reaches_putBurst (.of_firing hb hf) hb (by rw [h])
  unfold State.stepFiring
  split
  · exact reaches_settle_of_actsOn (put _ (by rfl)) (by rfl) (runAction_actsOn (.of_firing (by rfl) (by rfl)) _ _)
  · split
    · exact reaches_settle_completeFiring (put _ (by rfl)) (by rfl) _ _ _
    · exact reaches_settle_of_actsOn (reaches_examineMember hb hf _ _) (by simp) (.inl ⟨.refl, rfl⟩)
    · exact reaches_settle_completeFiring (put _ (by rfl)) (by rfl) _ _ _

theorem reaches_takeEntry {b : Burst} {e : Entry} {rest : List Entry} (hb : s.burst = some b) (hp : b.pending = e :: rest) :
    Reaches w s (s.takeEntry b e rest) := by
  have put (c : Burst) (h : c.pending = rest) : Reaches w s (s.putBurst c) :=
    reaches_putBurst (.of_pending hb hp) hb (by simp [h, hp])
  unfold State.takeEntry
  simp only []
  split
  · exact (put _ rfl).trans (reaches_countMerged _ _ _)
  · split
    · exact put _ rfl
    · exact put _ rfl

/-- An entry that edits a frame was armed, one that does not stays as it is (R113). -/
theorem reaches_patchOne (station : Byte) (x : State × Frame × Bool) (i : Fin 16) :
    Reaches w x.1 (patchOne station x i).1 := by
  unfold patchOne
  simp only []
  split
  · rename_i h
    split
    · refine (Effect.patches _ _ fun j hj => .inr ?_).reaches
      rw [Tab.get_set] at hj
      split at hj
      · rename_i hij
        rw [← Fin.ext hij]
        simp_all
      · exact hj
    · exact reaches_bump _ _
  · exact .refl

theorem reaches_patchFrame (s : State) (station : Byte) (f : Frame) : Reaches w s (patchFrame s station f).1 := by
  suffices H : ∀ (l : List (Fin 16)) (x : State × Frame × Bool), Reaches w x.1 (l.foldl (patchOne station) x).1 from
    H _ (s, f, false)
  intro l
  induction l with
  | nil => exact fun _ => .refl
  | cons i l ih => exact fun x => (reaches_patchOne station x i).trans (ih _)

theorem reaches_patchAndRelease (s : State) (id : Nat) : Reaches w s (s.patchAndRelease id) := by
  unfold State.patchAndRelease
  split
  · exact (reaches_patchFrame s _ _).tail (.forward _ _ (by simp [Forward.finish]))
  · exact .refl

theorem reaches_finishHeld (s : State) : Reaches true s s.finishHeld := by
  unfold State.finishHeld
  split
  · split
    · exact (Effect.agent s _).reaches.trans (reaches_finishCommit _ _)
    · exact .refl
  · exact .refl

/-- The burst ends, and the swap that it carries is made (R145). -/
theorem reaches_ended (s : State) (b : Burst) : Reaches true s
    (if b.carriesSwap && (s.withBurst none).banks.commitPending then (s.withBurst none).swap else s.withBurst none) := by
  have ended : Reaches true s (s.withBurst none) := (Effect.ended s).reaches
  split
  · exact ended.trans (reaches_swap _)
  · exact ended

theorem reaches_endBurst (s : State) (b : Burst) : Reaches true s (s.endBurst b) := by
  unfold State.endBurst
  simp only []
  refine Relation.ReflTransGen.trans ?_ (reaches_finishHeld _)
  cases b.frame with
  | none => exact reaches_ended s b
  | some id => exact (reaches_patchAndRelease s id).trans (reaches_ended _ b)

theorem reaches_burstWork (s : State) : Reaches true s s.burstWork := by
  unfold State.burstWork
  split
  · exact .refl
  · rename_i b hb
    split
    · rename_i f _ hf; exact reaches_settle_stepFiring hb hf
    · rename_i e rest _ hp; exact reaches_takeEntry hb hp
    · exact reaches_endBurst s b

theorem reaches_claimOf {k : Byte} {take : Request → State → State} (h : claimOf k = some take) (q : Request) (s : State) :
    Reaches true s (take q s) := by
  unfold claimOf at h
  split at h <;> cases h
  · exact reaches_takeRun q s
  · exact reaches_takeStop q s
  · exact reaches_takeReset q s
  · exact reaches_takeClear q s
  · exact reaches_takeEnable q s
  · exact reaches_takeDisable q s
  · exact reaches_answerRuntime q s

theorem reaches_takeHeld (s : State) : Reaches true s s.takeHeld := by
  unfold State.takeHeld
  split
  · split
    · rename_i h
      obtain ⟨k, -, hk⟩ := Option.bind_eq_some_iff.mp h
      exact (Effect.agent s _).reaches.trans (reaches_claimOf hk _ _)
    · exact .refl
  · exact .refl

theorem reaches_serveClaims (s : State) : Reaches true s s.serveClaims := by
  unfold State.serveClaims
  split
  · exact .refl
  · split
    · exact reaches_withStopClaim reaches_takeHeld s
    · exact (reaches_takeStopClaim s).trans (reaches_takeHeld _)

theorem reaches_burstStep (s : State) : Reaches true s s.burstStep := (reaches_burstWork s).trans (reaches_serveClaims _)

theorem reaches_runBurst (n : Nat) (s : State) : Reaches true s (s.runBurst n) := by
  induction n generalizing s with
  | zero => exact .refl
  | succ n ih =>
    unfold State.runBurst
    split
    · exact (reaches_burstStep s).trans (ih _)
    · exact .refl

/-! The events taken. -/

theorem reaches_beginBurst (s : State) (st : Stamp) (frame : Option Nat) (carries : Bool) :
    Reaches w s (beginBurst s st frame carries) :=
  (Effect.burst s _ (.inl (Nat.zero_le _)) (.inr ⟨rfl, rfl⟩)).reaches

theorem reaches_begun {e : Event} {rest : List Event} (h : s.intake = e :: rest) (st : Stamp) (frame : Option Nat)
    (carries : Bool) : Reaches w s (beginBurst (s.withIntake rest) st frame carries) :=
  (Effect.intake s rest (by simp [h])).reaches.trans (reaches_beginBurst _ _ _ _)

theorem reaches_fireAll {enter : State → State} (h : ∀ u : State, u.Acts → Reaches true u (enter u)) (s : State) (m : BurstMode) :
    Reaches true s (s.fireAll m enter) := by
  have entered : Reaches true s (if s.engine = .running then enter s else s) := by
    split
    · rename_i running; exact h s (.of_running running)
    · exact .refl
  cases m with
  | whole => exact entered.trans (reaches_runBurst _ _)
  | stepwise => exact entered

/-- An updated channel is FRESH, another is as it was (R64). -/
theorem reaches_updateChannels (s : State) (f : Frame) (station : Byte) (ord : BitVec 48) :
    Reaches w s (s.updateChannels f station ord) := by
  refine (Effect.channels s _ fun i hi => .inl ?_).reaches
  rw [Tab.get_mapIdx]
  simp only []
  split
  · split
    · rfl
    · exact hi
  · exact hi

theorem reaches_evaluateWatches (s : State) (on : Fin 32 → Bool) : Reaches w s (s.evaluateWatches on) := by
  refine (Effect.watches s _ fun i hi => ?_).reaches
  rw [Tab.get_mapIdx] at hi
  simp only [] at hi
  split at hi
  · rename_i m hm
    exact .inr (by rw [hm]; rfl)
  · exact .inl hi

/-- A train that an evaluation leaves off IDLE was so before (R82). -/
theorem TrainRt.state_evaluate_of_idle {e : TrainEntry} {v : Ext} {r : TrainRt} (h : r.state = .idle) :
    (r.evaluate e v).rt.state = .idle := by simp [evaluate, h]

theorem reaches_evaluateTrains (s : State) (on : Fin 32 → Bool) : Reaches w s (s.evaluateTrains on).1 := by
  refine (Effect.trains s _ fun k hk => .inl fun idle => hk ?_).reaches.tail (.count _ _ _)
  rw [Tab.get_ofFn]
  unfold State.trainEval
  simp only []
  split
  · split
    · exact TrainRt.state_evaluate_of_idle idle
    · exact idle
  · exact idle

theorem reaches_sampleFrame (s : State) (id : Nat) (station : Byte) : Reaches w s (s.sampleFrame id station).1 := by
  unfold State.sampleFrame
  split
  · exact .refl
  · split
    · exact reaches_bump s _
    · exact ((reaches_updateChannels s _ _ _).trans (reaches_evaluateWatches _ _)).trans (reaches_evaluateTrains _ _)

/-- A channel that is neither FRESH nor HELD any more after a record that was not lost has gone STALE. -/
theorem ChannelRt.isStale_of_current {c d : ChannelRt} (hc : c.current.isSome = true) (hd : d.current.isSome = false)
    (seen : d.value ≠ .unseen) : (d.isStale && !c.isStale) = true := by
  obtain ⟨cv, cm, cu⟩ := c
  obtain ⟨dv, dm, du⟩ := d
  cases cv with
  | unseen => cases hc
  | seen f v =>
    cases dv with
    | unseen => exact absurd rfl seen
    | seen g w => cases f <;> cases g <;> simp_all [ChannelRt.current, ChannelRt.isStale]

theorem watches_forgetWatches (s : State) (on : Fin 32 → Bool) (w : Fin 64) : (s.forgetWatches on).watches.get w
    = if on (s.banks.active.watches.get w).channel then (s.watches.get w).forget else s.watches.get w := by
  simp [State.forgetWatches]

theorem trains_haltTrains (s : State) (on : Fin 32 → Bool) (k : Fin 8) : (s.haltTrains on).trains.get k
    = if on (s.banks.active.trains.get k).channel then (s.trains.get k).halt else s.trains.get k := by
  simp [State.haltTrains]

/-- Channels that take new records: those that go STALE lose their watches' truth and their trains first (R72, R87). -/
theorem reaches_settleChannels (s : State) (f : ChannelEntry → ChannelRt → ChannelRt)
    (seen : ∀ e c, c.current.isSome = true → (f e c).value ≠ .unseen) : Reaches w s (s.settleChannels f).1 := by
  let after := s.channels.mapIdx fun i c =>
    if (s.banks.active.channels.get i).valid then f (s.banks.active.channels.get i) c else c
  let gone : Fin 32 → Bool := fun i => (after.get i).isStale && !(s.channels.get i).isStale
  let quiet := (s.forgetWatches gone).haltTrains gone
  have forgot : Reaches w s (s.forgetWatches gone) := by
    refine (Effect.watches s _ fun w hw => .inl ?_).reaches
    rw [Tab.get_mapIdx] at hw
    split at hw
    · exact absurd rfl hw
    · exact hw
  have halted : Reaches w (s.forgetWatches gone) quiet := by
    refine (Effect.trains _ _ fun k hk => .inl ?_).reaches
    rw [Tab.get_mapIdx] at hk
    split at hk
    · exact absurd rfl hk
    · exact hk
  have settled : Effect w quiet (quiet.withChannels after) := by
    refine .channels _ _ fun i hi => ?_
    by_cases stays : (after.get i).current.isSome = true
    · exact .inl stays
    · have off : gone i = true := by
        refine ChannelRt.isStale_of_current hi (by simpa using stays) ?_
        have hi : (s.channels.get i).current.isSome = true := hi
        simp only [after, Tab.get_mapIdx]
        split
        · exact seen _ _ hi
        · intro h; simp [ChannelRt.current, h] at hi
      refine .inr ⟨fun w (hw : (s.banks.active.watches.get w).channel = i) => ?_,
        fun k (hk : ((s.forgetWatches gone).banks.active.trains.get k).channel = i) => ?_⟩
      · exact (congrArg WatchRt.truth (watches_forgetWatches s gone w)).trans (by rw [hw, off]; rfl)
      · exact (congrArg TrainRt.state (trains_haltTrains (s.forgetWatches gone) gone k)).trans (by rw [hk, off]; rfl)
  exact (forgot.trans halted).tail settled

theorem ChannelRt.close_seen {n : Nat} {c : ChannelRt} (h : c.current.isSome = true) : (c.close n).value ≠ .unseen := by
  obtain ⟨value, misses, updated⟩ := c
  cases value with
  | unseen => cases h
  | seen f m =>
    cases f <;> simp only [close, goStale] <;> repeat' split
    all_goals simp

theorem ChannelRt.lose_seen {c : ChannelRt} (h : c.current.isSome = true) : c.lose.value ≠ .unseen := by
  obtain ⟨value, misses, updated⟩ := c
  cases value with
  | unseen => cases h
  | seen f m => cases f <;> simp [lose, goStale]

end Sys2Proof.Machine
end

section
/-! SUPPORT. Every command completes, by effects one after the other, and so does a step. -/

namespace Sys2Proof.Machine

variable {s t : State} {w : Bool}

/-- The outcome is a next state that effects lead to. -/
def Completes (w : Bool) (s : State) (r : Result) : Prop := ∃ t, r = .next t ∧ Reaches w s t

theorem Completes.of (h : Reaches w s t) : Completes w s (.next t) := ⟨t, rfl, h⟩

theorem Completes.unchanged (s : State) : Completes w s (.next s) := .of .refl

/-! The commands of the link. -/

theorem completes_portSignalDetect (p : Port) (s : State) : Completes w s (execPortSignalDetect p s) := by
  refine .of ?_
  split
  · exact reaches_withPort s p _
  · exact .refl

theorem completes_portAligned (p : Port) (l : List LineWord) (s : State) : Completes w s (execPortAligned p l s) := by
  refine .of ?_
  split
  · exact reaches_receiveWords s p l
  · exact .refl

theorem completes_portSignalLoss (p : Port) (s : State) : Completes w s (execPortSignalLoss p s) := by
  refine .of ?_
  split
  · exact .refl
  · exact reaches_withPort s p _
  · exact (reaches_withPort s p _).trans (reaches_portLeft _ p 1)

theorem completes_portBadWordLimit (p : Port) (l : List LineWord) (s : State) : Completes w s (execPortBadWordLimit p l s) := by
  refine .of ?_
  split
  · exact reaches_receiveWords s p l
  · exact .refl

theorem completes_cycleStartFrame (f : Frame) (s : State) : Completes w s (execCycleStartFrame f s) := by
  refine .of (reaches_onFrame (fun v u => ?_) f _ s)
  split
  · exact reaches_enterAnd (fun u => reaches_takeStart u _ _) u f
  · exact reaches_enter u f

theorem completes_cycleCloseFrame (f : Frame) (s : State) : Completes w s (execCycleCloseFrame f s) := by
  refine .of (reaches_onFrame (fun v u => ?_) f _ s)
  split
  · exact reaches_enterAnd (fun u => reaches_takeClose u _) u f
  · exact reaches_enter u f

theorem completes_broadcastManagementFrame (f : Frame) (s : State) : Completes true s (execBroadcastManagementFrame f s) :=
  .of (reaches_onFrame (fun _ u => reaches_enterAnd (fun u => reaches_takeBroadcast u _) u f) f _ s)

theorem completes_failedCheckFrame (f : Frame) (s : State) : Completes w s (execFailedCheckFrame f s) := by
  refine .of ?_
  split
  · split
    · exact ((reaches_receive s f).trans (reaches_bump _ _)).trans (reaches_enter _ f)
    · exact .refl
  · exact reaches_hearFrame s f

theorem completes_forwardRelease (s : State) : Completes w s (execForwardRelease s) := by
  refine .of ?_
  split
  · rename_i b rest h
    split
    · exact .refl
    · have left : Effect w s.finishSending (s.finishSending.withForward { s.forward with frames := rest }) :=
        .forward _ _ (by simp [h])
      exact ((reaches_finishSending s).tail left).trans (reaches_transmit _ _)
  · exact .refl

theorem completes_insertionStart (s : State) : Completes true s (execInsertionStart s) := by
  refine .of ?_
  split
  · split
    · exact (((reaches_finishSending s).tail (.agent _ _)).trans (reaches_countInsertion _)).trans (reaches_transmit _ _)
    · split
      · rename_i due
        have active : s.report.state = .active := by simp_all [State.markerDue]
        have window : s.report.outstanding.length < 4 := by simp_all [State.markerDue]
        have built : Effect true s.finishSending
            (s.finishSending.withReport (s.report.build s.banks.active.settings.perFrame)) := by
          simpa using Effect.built s.finishSending s.banks.active.settings.perFrame (by simpa) (by simpa)
        exact (((reaches_finishSending s).tail built).trans (reaches_countInsertion _)).trans (reaches_transmit _ _)
      · exact .refl
  · exact .refl

/-! The events of the clock and of the pins. -/

theorem completes_trackerTimeout (s : State) : Completes w s (execTrackerTimeout s) := by
  refine .of ?_
  split
  · exact reaches_trackerExpires s _
  · exact .refl

theorem completes_reportTimeout (s : State) : Completes w s (execReportTimeout s) := by
  refine .of ?_
  split
  · exact reaches_reportTimesOut s
  · exact .refl

theorem completes_sessionLeaseExpiry (s : State) : Completes w s (execSessionLeaseExpiry s) := by
  refine .of ?_
  split
  · exact (Effect.session s _ _).reaches
  · exact .refl

theorem completes_timerExpiry (k : Fin 4) (s : State) : Completes w s (execTimerExpiry k s) := by
  refine .of ?_
  split
  · rename_i h; exact reaches_expireTimer (by simp_all)
  · exact .refl

theorem completes_pulseEnd (j : Fin 8) (s : State) : Completes w s (execPulseEnd j s) := by
  refine .of ?_
  split
  · exact (Effect.outputs s _).reaches
  · exact .refl

theorem completes_inputEdgeAccept (k : Fin 4) (s : State) : Completes w s (execInputEdgeAccept k s) := by
  refine .of ?_
  split
  · exact reaches_acceptInput s k
  · exact .refl

/-! The events taken. -/

theorem completes_takeFrameEvent (m : BurstMode) (s : State) : Completes true s (execTakeFrameEvent m s) := by
  unfold execTakeFrameEvent
  split
  · rename_i h
    exact .of (((reaches_begun h _ _ _).trans (reaches_sampleFrame _ _ _)).trans
      (reaches_fireAll (fun _ => reaches_addProducts _) _ m))
  · exact .unchanged s

theorem completes_takeInputEdge (m : BurstMode) (s : State) : Completes true s (execTakeInputEdge m s) := by
  unfold execTakeInputEdge
  split
  · rename_i h; exact .of ((reaches_begun h _ _ _).trans (reaches_fireAll (fun _ => reaches_derive _) _ m))
  · exact .unchanged s

theorem completes_takeTimerExpiry (m : BurstMode) (s : State) : Completes true s (execTakeTimerExpiry m s) := by
  unfold execTakeTimerExpiry
  split
  · rename_i h; exact .of ((reaches_begun h _ _ _).trans (reaches_fireAll (fun _ => reaches_derive _) _ m))
  · exact .unchanged s

theorem completes_takeCycleStart (m : BurstMode) (s : State) : Completes true s (execTakeCycleStart m s) := by
  unfold execTakeCycleStart
  split
  · rename_i h; exact .of ((reaches_begun h _ _ _).trans (reaches_fireAll (fun _ => reaches_derive _) _ m))
  · exact .unchanged s

theorem completes_takeCycleClose (m : BurstMode) (s : State) : Completes true s (execTakeCycleClose m s) := by
  unfold execTakeCycleClose
  split
  · rename_i h
    exact .of (((reaches_begun h _ _ _).trans (reaches_settleChannels _ _ fun _ _ => ChannelRt.close_seen)).trans
      (reaches_fireAll (fun _ => reaches_addProducts _) _ m))
  · exact .unchanged s

theorem completes_takeCycleLost (m : BurstMode) (s : State) : Completes true s (execTakeCycleLost m s) := by
  unfold execTakeCycleLost
  split
  · rename_i h
    exact .of (((reaches_begun h _ _ _).trans (reaches_settleChannels _ _ fun _ _ => ChannelRt.lose_seen)).trans
      (reaches_fireAll (fun _ => reaches_addProducts _) _ m))
  · exact .unchanged s

theorem completes_takeFireRequest (m : BurstMode) (s : State) : Completes true s (execTakeFireRequest m s) := by
  unfold execTakeFireRequest
  split
  · rename_i h; exact .of ((reaches_begun h _ _ _).trans (reaches_fireAll (fun _ => reaches_addNamed _) _ m))
  · exact .unchanged s

theorem completes_serve {run : Request → State → State} (h : ∀ q u, Reaches true u (run q u)) {mine needs : Request → Bool}
    (s : State) : Completes true s (.next (serve mine needs run s)) := .of (reaches_serve h mine needs s)

/-- Every command completes. -/
theorem exec_completes (c : Instr) (s : State) : Completes true s (exec c s) := by
  cases c with
  | deviceReset a tin => exact .of (Effect.deviceReset s a tin).reaches
  | portSignalDetect p => exact completes_portSignalDetect p s
  | portAligned p l => exact completes_portAligned p l s
  | portSignalLoss p => exact completes_portSignalLoss p s
  | portBadWordLimit p l => exact completes_portBadWordLimit p l s
  | cycleStartFrame f => exact completes_cycleStartFrame f s
  | cycleCloseFrame f => exact completes_cycleCloseFrame f s
  | processFrame f => exact .of (reaches_onFrame (fun v u => reaches_takeProcess u f v) f _ s)
  | managementFrame f => exact .of (reaches_onFrame (fun v u => reaches_takeRequest u v) f _ s)
  | broadcastManagementFrame f => exact completes_broadcastManagementFrame f s
  | ownFrameReturn f => exact .of (reaches_onFrame (fun _ _ => .refl) f _ s)
  | otherFrame f => exact .of (reaches_onFrame (fun _ u => reaches_enter u f) f _ s)
  | failedCheckFrame f => exact completes_failedCheckFrame f s
  | forwardRelease => exact completes_forwardRelease s
  | insertionStart => exact completes_insertionStart s
  | trackerTimeout => exact completes_trackerTimeout s
  | reportTimeout => exact completes_reportTimeout s
  | sessionLeaseExpiry => exact completes_sessionLeaseExpiry s
  | timerExpiry k => exact completes_timerExpiry k s
  | pulseEnd j => exact completes_pulseEnd j s
  | inputPinChange k high => exact .of (Effect.pin s k high).reaches
  | inputEdgeAccept k => exact completes_inputEdgeAccept k s
  | takeFrameEvent m => exact completes_takeFrameEvent m s
  | takeInputEdge m => exact completes_takeInputEdge m s
  | takeTimerExpiry m => exact completes_takeTimerExpiry m s
  | takeCycleStart m => exact completes_takeCycleStart m s
  | takeCycleClose m => exact completes_takeCycleClose m s
  | takeCycleLost m => exact completes_takeCycleLost m s
  | takeFireRequest m => exact completes_takeFireRequest m s
  | sessionOpen => exact completes_serve (reaches_bare reaches_openSession) s
  | sessionClose => exact completes_serve (reaches_bare fun q u => reaches_withAgent_answer u _ q _ _) s
  | statusRead => exact completes_serve (reaches_bare fun q u => reaches_answer u q _ _) s
  | tableWrite => exact completes_serve reaches_writeTable s
  | tableRead => exact completes_serve reaches_readTable s
  | commit => exact completes_serve (reaches_bare reaches_commitStaging) s
  | commitAbort => exact completes_serve (reaches_bare reaches_abortCommit) s
  | engineRun => exact completes_serve (reaches_bare (reaches_claim reaches_takeRun)) s
  | engineStop => exact completes_serve (reaches_bare (reaches_claim reaches_takeStop)) s
  | engineReset => exact completes_serve (reaches_bare (reaches_claim reaches_takeReset)) s
  | configClear => exact completes_serve (reaches_bare (reaches_claim reaches_takeClear)) s
  | triggerEnable => exact completes_serve (reaches_withTriggerSet (reaches_claim reaches_takeEnable)) s
  | triggerDisable => exact completes_serve (reaches_withTriggerSet (reaches_claim reaches_takeDisable)) s
  | triggerFire => exact completes_serve (reaches_withTriggerSet reaches_fireTriggers) s
  | runtimeRead => exact completes_serve reaches_readRuntime s
  | reportAck => exact completes_serve reaches_ackReport s
  | reportRead => exact completes_serve reaches_readReport s
  | reportResume => exact completes_serve (reaches_bare reaches_resumeReport) s
  | faultRead => exact completes_serve (reaches_bare fun q u => reaches_answer u q _ _) s
  | faultClear => exact completes_serve reaches_clearFaults s
  | counterRead => exact completes_serve reaches_readCounters s
  | counterReadClear => exact completes_serve reaches_readAndClearCounters s

theorem perform_completes (a : Activity) (s : State) : Completes true s (a.perform s) := by
  cases a with
  | command c => exact exec_completes c s
  | burst => exact .of (reaches_burstStep s)
  | sent => exact .of (reaches_finishSending s)
  | time => exact .of (reaches_tick s)

theorem idle_completes (s : State) : Completes true s s.idle := by
  unfold State.idle
  split
  · exact .unchanged s
  · exact perform_completes _ s
  · obtain ⟨t, ht, r⟩ := perform_completes (s.activities.getD (s.pickBelow s.activities.length) .time) s.spend
    exact ⟨t, ht, (reaches_spend s).trans r⟩

theorem step_completes (s : State) : Completes true s (step s) := by
  unfold step
  split
  · exact idle_completes s
  · rename_i c rest _
    obtain ⟨t, ht, r⟩ := exec_completes c (s.withPending rest)
    exact ⟨t, ht, (Effect.queue s rest).reaches.trans r⟩

/-- A step is a succession of effects. -/
theorem step_reaches (h : step s = .next t) : Reaches true s t := by
  obtain ⟨u, hu, r⟩ := step_completes s
  obtain rfl : u = t := by simpa [h] using hu.symm
  exact r

/-- What every effect keeps, every step keeps. -/
theorem step_keeps {P : State → Prop} (keeps : ∀ s t, Effect true s t → P s → P t) (hs : P s) (h : step s = .next t) : P t :=
  (step_reaches h).keeps keeps hs

/-- Settles O2: every command's outcome is a next state that effects lead to. -/
theorem everyCommandAnswersNext : Obligations.EveryCommandAnswersNext := fun c s =>
  let ⟨t, ht, _⟩ := exec_completes c s
  ⟨t, ht⟩

end Sys2Proof.Machine
end

section
/-! SUPPORT. The invariants of the steps, each as an invariant of the effects, and the statements about them. -/

namespace Sys2Proof.Machine

variable {s t : State} {w : Bool}

/-! What raising a fault, a record at the end of an action and a stop are made of. -/

/-- A part of a fault, a record or a stop, before the cleanup that may follow. -/
inductive FaultPart : State → State → Prop
  | append (s : State) (st : Stamp) (b : RecordBody) (h : s.report.hasRoom b = true) :
      FaultPart s (s.withReport (s.report.append st b))
  | gap (s : State) (g : Nat) : FaultPart s (s.withReport { s.report with gap := g })
  | count (s : State) (c : Counter) : FaultPart s (s.bump c)
  | set (s : State) (k : Fin 6) : FaultPart s (s.setFault k)
  | engine (s : State) (x : EngineState) : FaultPart s (s.withEngine x)
  | cleanup (s : State) : FaultPart s s.cleanup

/-! Each field after a cleanup (Figure 10-2). -/

@[simp] theorem trains_cleanup (s : State) : s.cleanup.trains = s.trains.map TrainRt.halt := by
  unfold State.cleanup
  dsimp only
  split <;> rfl

@[simp] theorem timers_cleanup (s : State) : s.cleanup.timers = s.timers.map TimerRt.halt := by
  unfold State.cleanup
  dsimp only
  split <;> rfl

@[simp] theorem patches_cleanup (s : State) : s.cleanup.patches = s.patches.map fun p => { p with armed := false } := by
  unfold State.cleanup
  dsimp only
  split <;> rfl

@[simp] theorem outputs_cleanup (s : State) :
    s.cleanup.outputs = s.outputs.mapIdx fun j o => OutputRt.safe (s.banks.active.outputs.get j) o := by
  unfold State.cleanup
  dsimp only
  split <;> rfl

@[simp] theorem burst_cleanup (s : State) : s.cleanup.burst = s.burst.map Burst.interrupt := by
  unfold State.cleanup
  dsimp only
  split <;> rfl

@[simp] theorem triggers_cleanup (s : State) : s.cleanup.triggers
    = if s.engine = .disarmed then s.triggers.map fun t => { t with armed := false } else s.triggers := by
  unfold State.cleanup
  dsimp only
  split <;> rename_i h <;> simp only [State.engine_withPatches, State.engine_withOutputs, State.engine_withTimers,
    State.engine_withTrains, State.engine_withBurst] at h <;> simp [h]

section Parts

variable {P : State → Prop} (part : ∀ s t, FaultPart s t → P s → P t)

include part

theorem keeps_countLoss (h : P s) : P s.countLoss := part _ _ (.gap _ _) (part _ _ (.count s _) h)

theorem keeps_disarmFor (k : Fin 6) (h : P s) : P (s.disarmFor k) := by
  unfold State.disarmFor
  split
  · exact part _ _ (.engine s _) h
  · exact h

theorem keeps_offerLoss (d : Nat) (h : P s) : P (s.offerLoss d) := by
  have set := part _ _ (.set s reportLoss) h
  unfold State.offerLoss
  refine keeps_disarmFor part _ ?_
  split
  · rename_i room; exact part _ _ (.append _ _ _ room) set
  · exact keeps_countLoss part set

theorem keeps_offerRecord (st : Stamp) (b : RecordBody) (h : P s) : P (s.offerRecord st b) := by
  unfold State.offerRecord State.lose
  split
  · rename_i room; exact part _ _ (.append s st b room) h
  · dsimp only
    split
    · exact keeps_countLoss part h
    · exact keeps_offerLoss part _ (keeps_countLoss part h)

theorem keeps_settle (h : P t) : P (settle s t) := by
  unfold settle
  split
  · exact part _ _ (.cleanup t) h
  · exact h

theorem keeps_raiseFault (k : Fin 6) (d : Nat) (h : P s) : P (s.raiseFault k d) := by
  have set := part _ _ (.set s k) h
  refine keeps_settle part ?_
  unfold State.raiseRaw
  refine keeps_disarmFor part _ ?_
  split
  · exact set
  · exact keeps_offerRecord part _ _ set

theorem keeps_stopEngine (h : P s) : P s.stopEngine := by
  unfold State.stopEngine
  split
  · exact keeps_settle part (part _ _ (.engine s _) h)
  · exact part _ _ (.engine s _) h
  · exact h

end Parts

/-! Counters and raise counts. -/

theorem State.Saturated.of_eq (h : s.Saturated) (hc : t.counters = s.counters)
    (hf : ∀ k, (t.faults.get k).raises = (s.faults.get k).raises) : t.Saturated :=
  ⟨fun c => by rw [State.counter, hc]; exact h.counters c, fun k => by rw [hf]; exact h.raises k⟩

theorem State.Saturated.bumpBy (h : s.Saturated) (c : Counter) (n : Nat) : (s.bumpBy c n).Saturated := by
  refine ⟨fun d => ?_, h.raises⟩
  simp only [State.counter, State.bumpBy, State.counters_withCounters, Tab.get_modify]
  split
  · exact min_le_right _ _
  · exact h.counters d

theorem State.Saturated.setFault (h : s.Saturated) (k : Fin 6) : (s.setFault k).Saturated := by
  refine ⟨h.counters, fun j => ?_⟩
  simp only [State.setFault, State.faults_withFaults, Tab.get_modify]
  split
  · exact min_le_right _ _
  · exact h.raises j

theorem part_saturated (s t : State) (p : FaultPart s t) (h : s.Saturated) : t.Saturated := by
  cases p with
  | append | gap | engine => exact h.of_eq rfl fun _ => rfl
  | count c => exact h.bumpBy c 1
  | set k => exact h.setFault k
  | cleanup => exact h.of_eq (by simp) (by simp)

theorem effect_saturated (s t : State) (e : Effect w s t) (h : s.Saturated) : t.Saturated := by
  cases e with
  | count _ c n => exact h.bumpBy c n
  | clearCounters => exact ⟨fun c => by simp [State.counter, State.clearCounters], fun k => by simp [State.clearCounters]⟩
  | flags _ x hx => exact h.of_eq rfl hx
  | raise _ k d => exact keeps_raiseFault part_saturated k d h
  | record _ st b => exact keeps_settle part_saturated (keeps_offerRecord part_saturated st b h)
  | stop => exact keeps_stopEngine part_saturated h
  | swapBanks => exact h.of_eq (by simp) (by simp)
  | reset => exact h.of_eq (by simp) (by simp [State.engineReset])
  | deviceReset =>
    exact ⟨fun c => by simp [State.counter, State.afterReset, State.reset], fun k => by simp [State.afterReset, State.reset]⟩
  | _ => exact h.of_eq rfl fun _ => rfl

/-- Settles O58: counts saturate wherever they rise. -/
theorem stepKeepsCountersInRange : Obligations.StepKeepsCountersInRange := fun _ _ => step_keeps effect_saturated

/-! The inputs. -/

theorem State.InputsExact.of_eq (h : s.InputsExact) (hi : t.inputs = s.inputs) (hn : t.now = s.now) : t.InputsExact := by
  unfold State.InputsExact
  rw [hi, hn]
  exact h

/-- A pending change of an input is what the pin and the accepted level differ by, since a moment no later than `now`. -/
def InputRt.Exact (now : Nat) (r : InputRt) : Prop :=
  r.since.isSome = (r.pin ^^ r.accepted) ∧ ∀ m, r.since = some m → m ≤ now

theorem InputRt.Exact.accept {now : Nat} (r : InputRt) : Exact now { r with accepted := r.pin, since := none } := by
  simp [Exact]

theorem InputRt.Exact.pinTo {now : Nat} {r : InputRt} (h : Exact now r) (high : Bool) : Exact now (r.pinTo now high) := by
  unfold InputRt.pinTo
  split
  · exact h
  · by_cases back : high = r.accepted <;> simp [Exact, back]

theorem part_inputsExact (s t : State) (p : FaultPart s t) (h : s.InputsExact) : t.InputsExact := by
  cases p with
  | cleanup => exact h.of_eq (by simp) (by simp)
  | _ => exact h.of_eq rfl rfl

theorem effect_inputsExact (s t : State) (e : Effect w s t) (h : s.InputsExact) : t.InputsExact := by
  cases e with
  | accepted _ k =>
    intro j
    simp only [State.inputs_withInputs, Tab.get_set]
    split
    · exact InputRt.Exact.accept _
    · exact h j
  | pin _ k high =>
    intro j
    simp only [State.inputs_withInputs, Tab.get_modify]
    split
    · exact InputRt.Exact.pinTo (h j) high
    · exact h j
  | nanosecond => exact fun k => ⟨(h k).1, fun m hm => Nat.le_succ_of_le ((h k).2 m hm)⟩
  | raise _ k d => exact keeps_raiseFault part_inputsExact k d h
  | record _ st b => exact keeps_settle part_inputsExact (keeps_offerRecord part_inputsExact st b h)
  | stop => exact keeps_stopEngine part_inputsExact h
  | clearCounters => exact h.of_eq rfl rfl
  | swapBanks => exact h.of_eq (by simp) (by simp)
  | reset => exact h.of_eq (by simp) (by simp)
  | deviceReset => exact fun k => by simp [State.afterReset, InputRt.atReset]
  | _ => exact h.of_eq rfl rfl

/-- Settles O56: a change is pending from the pin's change to its acceptance. -/
theorem stepKeepsInputsExact : Obligations.StepKeepsInputsExact := fun _ _ => step_keeps effect_inputsExact

/-! The reporter. -/

theorem nodup_eraseDups {α : Type} [BEq α] [LawfulBEq α] (l : List α) : l.eraseDups.Nodup := by
  induction hn : l.length using Nat.strong_induction_on generalizing l with
  | _ n ih =>
    cases l with
    | nil => simp
    | cons a l =>
      rw [List.eraseDups_cons, List.nodup_cons, List.mem_eraseDups]
      refine ⟨by simp, ih _ ?_ _ rfl⟩
      rw [← hn, List.length_cons]
      exact Nat.lt_succ_of_le (List.length_filter_le _ _)

/-- The frame numbers that some record is SENT in. -/
theorem Report.mem_outstanding (r : Report) (n : BitVec 16) : n ∈ r.outstanding ↔ ∃ d ∈ r.records, d.sent = some n := by
  simp [outstanding, List.mem_eraseDups]

theorem Report.outstanding_le {r : Report} {l : List (BitVec 16)} (h : ∀ d ∈ r.records, ∀ n, d.sent = some n → n ∈ l) :
    r.outstanding.length ≤ l.length := by
  refine ((nodup_eraseDups _).subperm fun n hn => ?_).length_le
  obtain ⟨d, hd, hs⟩ := (r.mem_outstanding n).mp hn
  exact h d hd n hs

theorem Report.outstanding_of_pending {r : Report} (h : ∀ d ∈ r.records, d.sent = none) : r.outstanding = [] := by
  refine List.eq_nil_of_length_eq_zero (Nat.le_zero.mp (r.outstanding_le (l := []) fun d hd n hn => ?_))
  rw [h d hd] at hn
  cases hn

/-- A record becomes SENT in frame `n` or stays as it is (R127). -/
theorem sent_markSent {n : BitVec 16} {d : Record} {k : Nat} {l : List Record} (h : d ∈ markSent n k l) :
    d ∈ l ∨ d.sent = some n := by
  induction l generalizing k with
  | nil => cases k <;> exact .inl h
  | cons e l ih =>
    cases k with
    | zero => exact .inl h
    | succ k =>
      unfold markSent at h
      split at h
      · obtain rfl | h := List.mem_cons.mp h
        · exact .inr rfl
        · exact (ih h).imp_left (List.mem_cons_of_mem _)
      · obtain rfl | h := List.mem_cons.mp h
        · exact .inl List.mem_cons_self
        · exact (ih h).imp_left (List.mem_cons_of_mem _)

/-- What the invariant says of the Report Unit. -/
structure Report.Exact (r : Report) : Prop where
  sent : r.state ≠ .active → ∀ d ∈ r.records, d.sent = none
  timer : r.state ≠ .active → r.timer.running = false
  window : r.outstanding.length ≤ 4

theorem reporterExact_iff : s.ReporterExact ↔ s.report.Exact := ⟨fun h => ⟨h.1, h.2, h.3⟩, fun h => ⟨h.1, h.2, h.3⟩⟩

theorem State.ReporterExact.of_eq (h : s.ReporterExact) (hr : t.report = s.report) : t.ReporterExact := by
  rw [reporterExact_iff, hr]
  exact reporterExact_iff.mp h

/-- With every record PENDING and the timer stopped the reporter is exact in any of its states. -/
theorem Report.Exact.of_pending {r : Report} (h : ∀ d ∈ r.records, d.sent = none) (ht : r.timer.running = false) : r.Exact :=
  ⟨fun _ => h, fun _ => ht, by simp [outstanding_of_pending h]⟩

/-- Records that are left out, or join as PENDING, are in no new frame. -/
theorem Report.Exact.of_records {r q : Report} (h : r.Exact) (hs : q.state = r.state)
    (ht : r.timer.running = false → q.timer.running = false) (hd : ∀ d ∈ q.records, d ∈ r.records ∨ d.sent = none) :
    q.Exact := by
  refine ⟨fun hq d hd' => ?_, fun hq => ht (h.timer (hs ▸ hq)), (outstanding_le fun d hd' n hn => ?_).trans h.window⟩
  · exact (hd d hd').elim (h.sent (hs ▸ hq) d) id
  · obtain old | pending := hd d hd'
    · exact (r.mem_outstanding n).mpr ⟨d, old, hn⟩
    · rw [pending] at hn; cases hn

theorem Report.Exact.append {r : Report} (h : r.Exact) (st : Stamp) (b : RecordBody) : (r.append st b).Exact := by
  refine h.of_records rfl id fun d hd => ?_
  obtain old | new := List.mem_append.mp hd
  · exact .inl old
  · obtain rfl := List.mem_singleton.mp new
    exact .inr rfl

theorem Report.Exact.countClose {r : Report} (h : r.Exact) (limit : Nat) : (r.countClose limit).Exact := by
  unfold Report.countClose
  split
  · rename_i running
    exact h.of_records rfl (fun stopped => by simp [running] at stopped) fun d => .inl
  · exact h

theorem Report.Exact.remove {r : Report} (h : r.Exact) (l : List (BitVec 16)) : (r.remove l).Exact := by
  have left : ∀ d ∈ (r.remove l).records, d ∈ r.records := fun d hd => (List.mem_filter.mp hd).1
  refine ⟨fun hs d hd => h.sent hs d (left d hd), fun hs => ?_,
    (outstanding_le fun d hd n hn => (r.mem_outstanding n).mpr ⟨d, left d hd, hn⟩).trans h.window⟩
  refine List.any_eq_false.mpr fun d hd => ?_
  simp [h.sent hs d (left d hd)]

theorem Report.Exact.build {r : Report} (active : r.state = .active) (window : r.outstanding.length < 4) (n : Nat) :
    (r.build n).Exact := by
  refine ⟨fun hs => absurd active hs, fun hs => absurd active hs, ?_⟩
  refine (outstanding_le (l := r.nextFrame :: r.outstanding) fun d hd m hm => ?_).trans window
  obtain old | new := sent_markSent hd
  · exact List.mem_cons_of_mem _ ((r.mem_outstanding m).mpr ⟨d, old, hm⟩)
  · rw [hm] at new
    cases new
    exact List.mem_cons_self

theorem Report.sent_revert {r : Report} : ∀ d ∈ r.revert.records, d.sent = none := by simp [revert]

theorem Report.Exact.carry {r : Report} (h : r.Exact) (old new : Settings) : (r.carry old new).Exact := by
  unfold Report.carry
  split
  · exact h
  · split
    · exact ⟨fun hs => absurd rfl hs, fun hs => absurd rfl hs, h.window⟩
    · exact .of_pending sent_revert rfl

theorem report_swapBanks (s : State) :
    s.swapBanks.report = s.report.carry s.banks.active.settings s.banks.staging.settings := by simp [State.swapBanks]

theorem part_reporterExact (s t : State) (p : FaultPart s t) (h : s.ReporterExact) : t.ReporterExact := by
  cases p with
  | append st b => exact reporterExact_iff.mpr ((reporterExact_iff.mp h).append st b)
  | gap => exact reporterExact_iff.mpr ((reporterExact_iff.mp h).of_records rfl id fun _ => .inl)
  | cleanup => exact h.of_eq (by simp)
  | _ => exact h.of_eq rfl

theorem effect_reporterExact (s t : State) (e : Effect w s t) (h : s.ReporterExact) : t.ReporterExact := by
  have exact_ := reporterExact_iff.mp h
  cases e with
  | raise _ k d => exact keeps_raiseFault part_reporterExact k d h
  | record _ st b => exact keeps_settle part_reporterExact (keeps_offerRecord part_reporterExact st b h)
  | stop => exact keeps_stopEngine part_reporterExact h
  | closeCounted _ limit => exact reporterExact_iff.mpr (exact_.countClose limit)
  | acknowledged _ l => exact reporterExact_iff.mpr (exact_.remove l)
  | drained _ n => exact reporterExact_iff.mpr (exact_.of_records rfl id fun d hd => .inl (List.mem_of_mem_drop hd))
  | resumed => exact reporterExact_iff.mpr ⟨fun hs => absurd rfl hs, fun hs => absurd rfl hs, exact_.window⟩
  | reverted => exact reporterExact_iff.mpr (.of_pending Report.sent_revert rfl)
  | built _ n active window => exact reporterExact_iff.mpr (.build active window n)
  | swapBanks => exact reporterExact_iff.mpr (report_swapBanks s ▸ exact_.carry _ _)
  | reset => exact reporterExact_iff.mpr (.of_pending (by simp [State.engineReset, Report.afterReset]) rfl)
  | deviceReset => exact reporterExact_iff.mpr (.of_pending (by simp [State.afterReset, State.reset]) rfl)
  | clearCounters => exact h.of_eq rfl
  | _ => exact h.of_eq rfl

/-- Settles O57: leaving ACTIVE reverts every record, and a Marker frame is built below the window alone. -/
theorem stepKeepsReporterExact : Obligations.StepKeepsReporterExact := fun _ _ => step_keeps effect_reporterExact

/-! Truths and running trains. -/

theorem State.Tracked.of_eq (h : s.Tracked) (hb : t.banks.active = s.banks.active) (hc : t.channels = s.channels)
    (hw : t.watches = s.watches) (ht : t.trains = s.trains) : t.Tracked :=
  ⟨by rw [hb, hc, hw]; exact h.watches, by rw [hb, hc, ht]; exact h.trains⟩

theorem part_tracked (s t : State) (p : FaultPart s t) (h : s.Tracked) : t.Tracked := by
  cases p with
  | cleanup => exact ⟨by simpa using h.watches, fun k hk => absurd (by simp [TrainRt.halt]) hk⟩
  | _ => exact h.of_eq rfl rfl rfl rfl

/-- A watch keeps its truth over a swap only with its channel (R56). -/
theorem truth_carryWatch {old new : Bank} {i : Fin 64} {w : WatchRt} (h : (carryWatch old new i w).truth ≠ .unknown) :
    w.truth ≠ .unknown ∧ old.watches.get i = new.watches.get i
      ∧ old.channels.get (new.watches.get i).channel = new.channels.get (new.watches.get i).channel := by
  unfold carryWatch at h
  simp only [] at h
  split at h
  · rename_i entry
    split at h
    · rename_i channel; exact ⟨h, entry, channel⟩
    · exact absurd rfl h
  · unfold WatchEntry.start at h
    split at h <;> exact absurd rfl h

/-- A train runs on over a swap only with its channel (R90). -/
theorem state_carryTrain {old new : Bank} {k : Fin 8} {r : TrainRt} (h : (carryTrain old new k r).state ≠ .idle) :
    r.state ≠ .idle ∧ old.trains.get k = new.trains.get k
      ∧ old.channels.get (new.trains.get k).channel = new.channels.get (new.trains.get k).channel := by
  unfold carryTrain at h
  simp only [] at h
  split at h
  · rename_i entry
    split at h
    · rename_i channel; exact ⟨h, entry, channel⟩
    · exact absurd rfl h
  · exact absurd rfl h

theorem channels_swapBanks (s : State) (i : Fin 32) : s.swapBanks.channels.get i
    = if s.banks.active.channels.get i = s.banks.staging.channels.get i then s.channels.get i else {} := by
  simp [State.swapBanks]

theorem watches_swapBanks (s : State) (i : Fin 64) :
    s.swapBanks.watches.get i = carryWatch s.banks.active s.banks.staging i (s.watches.get i) := by simp [State.swapBanks]

theorem trains_swapBanks (s : State) (k : Fin 8) :
    s.swapBanks.trains.get k = carryTrain s.banks.active s.banks.staging k (s.trains.get k) := by simp [State.swapBanks]

theorem timers_swapBanks (s : State) (k : Fin 4) : s.swapBanks.timers.get k
    = if s.banks.active.timers.get k = s.banks.staging.timers.get k then s.timers.get k else {} := by simp [State.swapBanks]

theorem outputs_swapBanks (s : State) (j : Fin 8) : s.swapBanks.outputs.get j
    = if s.banks.active.outputs.get j = s.banks.staging.outputs.get j then s.outputs.get j else {} := by
  simp [State.swapBanks]

theorem patches_swapBanks (s : State) (i : Fin 16) : s.swapBanks.patches.get i
    = if s.banks.active.patches.get i = s.banks.staging.patches.get i then s.patches.get i else {} := by
  simp [State.swapBanks]

theorem triggers_swapBanks (s : State) (i : Fin 48) : s.swapBanks.triggers.get i
    = if s.banks.active.triggers.get i = s.banks.staging.triggers.get i then s.triggers.get i
      else (s.banks.staging.triggers.get i).start (s.engine = .disarmed) := by simp [State.swapBanks]

@[simp] theorem active_swapBanks (s : State) : s.swapBanks.banks.active = s.banks.staging := rfl

theorem State.Tracked.swapBanks (h : s.Tracked) : s.swapBanks.Tracked := by
  refine ⟨fun i hi => ?_, fun k hk => ?_⟩
  · rw [watches_swapBanks] at hi
    obtain ⟨known, entry, channel⟩ := truth_carryWatch hi
    have current := h.watches i known
    rw [entry] at current
    rwa [active_swapBanks, channels_swapBanks, if_pos channel]
  · rw [trains_swapBanks] at hk
    obtain ⟨live, entry, channel⟩ := state_carryTrain hk
    have current := h.trains k live
    rw [entry] at current
    rwa [active_swapBanks, channels_swapBanks, if_pos channel]

theorem effect_tracked (s t : State) (e : Effect w s t) (h : s.Tracked) : t.Tracked := by
  cases e with
  | raise _ k d => exact keeps_raiseFault part_tracked k d h
  | record _ st b => exact keeps_settle part_tracked (keeps_offerRecord part_tracked st b h)
  | stop => exact keeps_stopEngine part_tracked h
  | banks _ x hx => exact h.of_eq hx rfl rfl rfl
  | channels _ x hx =>
    refine ⟨fun w hw => ?_, fun k hk => ?_⟩
    · exact (hx _ (h.watches w hw)).resolve_right fun gone => hw (gone.1 w rfl)
    · exact (hx _ (h.trains k hk)).resolve_right fun gone => hk (gone.2 k rfl)
  | watches _ x hx => exact ⟨fun w hw => (hx w hw).elim (h.watches w) id, h.trains⟩
  | trains _ x hx => exact ⟨h.watches, fun k hk => (hx k hk).elim (h.trains k) And.right⟩
  | swapBanks => exact h.swapBanks
  | reset =>
    refine ⟨fun w hw => absurd ?_ hw, fun k hk => absurd ?_ hk⟩
    · simp only [State.engineReset, State.watches_withBanks, State.watches_withReport, State.watches_withPatches,
        State.watches_withOutputs, State.watches_withTimers, State.watches_withTrains, State.watches_withWatches,
        Tab.get_ofFn, WatchEntry.start]
      split <;> rfl
    · simp [State.engineReset]
  | deviceReset =>
    exact ⟨fun w hw => absurd (by simp [State.afterReset, State.reset]) hw,
      fun k hk => absurd (by simp [State.afterReset, State.reset]) hk⟩
  | clearCounters => exact h.of_eq rfl rfl rfl rfl
  | _ => exact h.of_eq rfl rfl rfl rfl

/-- Settles O55: a channel that stops being current takes its watches' truths and its trains with it. -/
theorem stepKeepsTruthOnCurrentChannels : Obligations.StepKeepsTruthOnCurrentChannels := fun _ _ => step_keeps effect_tracked

end Sys2Proof.Machine
end

section
/-! SUPPORT. The part outside RUNNING, and the sizes of the queues that are not the Agent's, as invariants of the effects. -/

namespace Sys2Proof.Machine

variable {s t : State} {w : Bool}

/-! A fault, a record or a stop outside RUNNING leaves the engine where it is (R159). -/

theorem disarmFor_of_not_running (h : s.engine ≠ .running) (k : Fin 6) : s.disarmFor k = s := by
  simp [State.disarmFor, h]

theorem engine_offerLoss_of_not_running (h : s.engine ≠ .running) (d : Nat) : (s.offerLoss d).engine = s.engine := by
  unfold State.offerLoss
  dsimp only
  split
  · rw [disarmFor_of_not_running (by exact h)]; rfl
  · rw [disarmFor_of_not_running (by exact h)]; rfl

theorem engine_offerRecord_of_not_running (h : s.engine ≠ .running) (st : Stamp) (b : RecordBody) :
    (s.offerRecord st b).engine = s.engine := by
  unfold State.offerRecord State.lose
  dsimp only
  split
  · rfl
  · split
    · rfl
    · exact engine_offerLoss_of_not_running (s := s.countLoss) h _

theorem engine_raiseRaw_of_not_running (h : s.engine ≠ .running) (k : Fin 6) (d : Nat) :
    (s.raiseRaw k d).engine = s.engine := by
  unfold State.raiseRaw
  dsimp only
  split
  · rw [disarmFor_of_not_running (by exact h)]; rfl
  · have kept := engine_offerRecord_of_not_running (s := s.setFault k) h (s.setFault k).stampNow (.fault k d)
    rw [disarmFor_of_not_running (by rw [kept]; exact h), kept]
    rfl

/-! The part outside RUNNING. -/

/-- In a quiet part firings stand in RUNNING alone. -/
theorem State.Quiet.running_of_acts (h : s.Quiet) (acts : s.Acts) : s.engine = .running := by
  obtain running | ⟨b, hb, busy⟩ := acts
  · exact running
  · by_contra off
    exact busy (h.firings off b hb)

theorem State.Quiet.of_running (h : s.engine = .running) : s.Quiet :=
  ⟨fun off => absurd h off, fun off => absurd h off, fun off => absurd h off, fun off => absurd h off,
    fun off => by rw [h] at off; cases off⟩

theorem State.Quiet.of_eq (h : s.Quiet) (he : t.engine = s.engine) (htr : t.trains = s.trains) (hti : t.timers = s.timers)
    (hp : t.patches = s.patches) (hb : t.burst = s.burst) (htg : t.triggers = s.triggers) : t.Quiet :=
  ⟨by rw [he, htr]; exact h.trains, by rw [he, hti]; exact h.timers, by rw [he, hp]; exact h.patches,
    by rw [he, hb]; exact h.firings, by rw [he, htg]; exact h.triggers⟩

theorem quiet_cleanup (s : State) : s.cleanup.Quiet := by
  refine ⟨fun _ k => by simp [TrainRt.halt], fun _ k => by simp [TimerRt.halt], fun _ i => by simp, fun _ b hb => ?_,
    fun hd i => ?_⟩
  · rw [burst_cleanup] at hb
    obtain ⟨a, -, rfl⟩ := Option.map_eq_some_iff.mp hb
    exact ⟨rfl, rfl⟩
  · rw [State.cleanup_engine] at hd
    simp [hd]

/-- Whatever happens in an action of a RUNNING engine, the cleanup follows when it leaves RUNNING (R27, R154). -/
theorem quiet_settle_of_running (h : s.engine = .running) (t : State) : (settle s t).Quiet := by
  unfold settle
  split
  · exact quiet_cleanup t
  · rename_i stays
    exact .of_running (by simpa [h] using stays)

theorem State.Quiet.settle_offerRecord (h : s.Quiet) (st : Stamp) (b : RecordBody) :
    (settle s (s.offerRecord st b)).Quiet := by
  by_cases running : s.engine = .running
  · exact quiet_settle_of_running running _
  · rw [settle_of_not_running _ _ running]
    exact h.of_eq (engine_offerRecord_of_not_running running st b) (by simp) (by simp) (by simp) (by simp) (by simp)

theorem State.Quiet.raiseFault (h : s.Quiet) (k : Fin 6) (d : Nat) : (s.raiseFault k d).Quiet := by
  unfold State.raiseFault
  by_cases running : s.engine = .running
  · exact quiet_settle_of_running running _
  · rw [settle_of_not_running _ _ running]
    exact h.of_eq (engine_raiseRaw_of_not_running running k d) (by simp) (by simp) (by simp) (by simp) (by simp)

theorem State.Quiet.stopEngine (h : s.Quiet) : s.stopEngine.Quiet := by
  unfold State.stopEngine
  split
  · rename_i running; exact quiet_settle_of_running running _
  · rename_i disarmed
    have off : s.engine ≠ .running := by simp [disarmed]
    exact ⟨fun _ => h.trains off, fun _ => h.timers off, fun _ => h.patches off, fun _ => h.firings off, fun hd => by cases hd⟩
  · exact h

theorem State.Quiet.swapBanks (h : s.Quiet) : s.swapBanks.Quiet := by
  have engine : s.swapBanks.engine = s.engine := by simp
  refine ⟨fun off k => ?_, fun off k => ?_, fun off i => ?_, fun off => ?_, fun hd i => ?_⟩
  · by_contra live
    rw [trains_swapBanks] at live
    exact (state_carryTrain live).1 (h.trains (engine ▸ off) k)
  · have stopped := h.timers (engine ▸ off) k
    rw [timers_swapBanks]
    split
    · exact stopped
    · rfl
  · have disarmed := h.patches (engine ▸ off) i
    rw [patches_swapBanks]
    split
    · exact disarmed
    · rfl
  · simpa using h.firings (engine ▸ off)
  · have disarmed : s.engine = .disarmed := engine ▸ hd
    have off := h.triggers disarmed i
    rw [triggers_swapBanks]
    split
    · exact off
    · simp [TriggerEntry.start, disarmed]

theorem quiet_engineReset (s : State) : s.engineReset.Quiet := by
  refine ⟨fun _ k => ?_, fun _ k => ?_, fun _ i => ?_, fun _ b hb => ?_, fun hd => by cases hd⟩
  · simp [State.engineReset]
  · simp [State.engineReset]
  · simp [State.engineReset]
  · cases hb

theorem effect_quiet (s t : State) (e : Effect w s t) (h : s.Quiet) : t.Quiet := by
  have running := h.running_of_acts
  cases e with
  | raise _ k d => exact h.raiseFault k d
  | record _ st b => exact h.settle_offerRecord st b
  | run => exact .of_running rfl
  | stop => exact h.stopEngine
  | timers _ x hx =>
    refine ⟨h.trains, fun off k => ?_, h.patches, h.firings, h.triggers⟩
    by_contra runs
    exact (hx k (by simpa using runs)).elim (fun acts => off (running acts)) fun old => by simp [h.timers off k] at old
  | patches _ x hx =>
    refine ⟨h.trains, h.timers, fun off i => ?_, h.firings, h.triggers⟩
    by_contra armed
    exact (hx i (by simpa using armed)).elim (fun acts => off (running acts)) fun old => by simp [h.patches off i] at old
  | triggers _ x hx =>
    refine ⟨h.trains, h.timers, h.patches, h.firings, fun hd i => ?_⟩
    have hd : s.engine = .disarmed := hd
    by_contra armed
    obtain acts | other | old := hx i (by simpa using armed)
    · rw [running acts] at hd; cases hd
    · exact other hd
    · simp [h.triggers hd i] at old
  | burst _ b _ quiet =>
    refine ⟨h.trains, h.timers, h.patches, fun off a ha => ?_, h.triggers⟩
    obtain rfl : b = a := by simpa using ha
    exact quiet.resolve_left fun acts => off (running acts)
  | ended => exact ⟨h.trains, h.timers, h.patches, fun _ _ hb => (by cases hb), h.triggers⟩
  | trains _ x hx =>
    refine ⟨fun off k => ?_, h.timers, h.patches, h.firings, h.triggers⟩
    by_contra live
    exact (hx k live).elim (fun old => old (h.trains off k)) fun new => off (running new.1)
  | swapBanks => exact h.swapBanks
  | reset => exact quiet_engineReset _
  | deviceReset =>
    refine ⟨fun _ k => ?_, fun _ k => ?_, fun _ i => ?_, fun _ b hb => ?_, fun hd => by cases hd⟩
    · simp [State.afterReset, State.reset]
    · simp [State.afterReset, State.reset]
    · simp [State.afterReset, State.reset]
    · cases hb
  | clearCounters => exact h.of_eq rfl rfl rfl rfl rfl rfl
  | _ => exact h.of_eq rfl rfl rfl rfl rfl rfl

/-- Settles O54: what acts needs RUNNING or a firing that stands, and leaving RUNNING comes with its cleanup. -/
theorem stepKeepsQuietOutsideRunning : Obligations.StepKeepsQuietOutsideRunning := fun _ _ => step_keeps effect_quiet

/-! The queues that are not the Agent's. -/

/-- The sizes of the Intake Queue, the Forward Buffer, the Report Queue and the pending-firing list. -/
structure State.Fits (s : State) : Prop where
  intake : s.intake.length ≤ 16
  forward : s.forward.frames.length ≤ 8
  records : s.report.records.length ≤ 96
  others : s.report.records.countP (fun d => !d.isFault) ≤ 92
  firings : ∀ b, s.burst = some b → b.pending.length ≤ 64

theorem State.Fits.of_eq (h : s.Fits) (hi : t.intake = s.intake) (hf : t.forward = s.forward) (hr : t.report = s.report)
    (hb : t.burst = s.burst) : t.Fits :=
  ⟨hi ▸ h.intake, hf ▸ h.forward, hr ▸ h.records, hr ▸ h.others, hb ▸ h.firings⟩

/-- The Report Queue with records left out or changed in what they were SENT in. -/
theorem State.Fits.of_records (h : s.Fits) {r : Report} (hl : r.records.length ≤ s.report.records.length)
    (hc : r.records.countP (fun d => !d.isFault) ≤ s.report.records.countP (fun d => !d.isFault)) : (s.withReport r).Fits :=
  ⟨h.intake, h.forward, hl.trans h.records, hc.trans h.others, h.firings⟩

theorem State.Fits.of_sublist (h : s.Fits) {r : Report} (hr : r.records.Sublist s.report.records) : (s.withReport r).Fits :=
  h.of_records hr.length_le (hr.countP_le)

theorem countP_records_le (r : Report) : r.records.countP (fun d => !d.isFault) ≤ r.records.length := List.countP_le_length

/-- A record other than a FAULT record finds room below 92, a FAULT record below 96 (R121). -/
theorem State.Fits.append (h : s.Fits) {st : Stamp} {b : RecordBody} (room : s.report.hasRoom b = true) :
    (s.withReport (s.report.append st b)).Fits := by
  have others := h.others
  have among := countP_records_le s.report
  have fits : s.report.records.length < 96 := by
    unfold Report.hasRoom at room
    split at room <;> simp only [decide_eq_true_eq, Config.recordSize, Config.recordRoom] at room <;> omega
  refine ⟨h.intake, h.forward, ?_, ?_, h.firings⟩
  · simpa [Report.append] using fits
  · rw [State.report_withReport, Report.append, List.countP_append, List.countP_singleton]
    cases other : Record.isFault _ with
    | true => simpa using others
    | false =>
      have free : s.report.records.length < 92 := by
        unfold Report.hasRoom at room
        split at room
        · cases other
        · simpa using room
      simp only [Bool.not_false, if_true]
      omega

theorem part_fits (s t : State) (p : FaultPart s t) (h : s.Fits) : t.Fits := by
  cases p with
  | append st b room => exact h.append room
  | gap => exact h.of_sublist (List.Sublist.refl _)
  | cleanup =>
    refine ⟨by simpa using h.intake, by simpa using h.forward, by simpa using h.records, by simpa using h.others, fun b hb => ?_⟩
    rw [burst_cleanup] at hb
    obtain ⟨a, -, rfl⟩ := Option.map_eq_some_iff.mp hb
    exact Nat.zero_le _
  | _ => exact h.of_eq rfl rfl rfl rfl

theorem length_markSent (n : BitVec 16) (k : Nat) (l : List Record) : (markSent n k l).length = l.length := by
  induction l generalizing k with
  | nil => cases k <;> rfl
  | cons d l ih =>
    cases k with
    | zero => rfl
    | succ k => unfold markSent; split <;> simp [ih]

@[simp] theorem Record.isFault_sent (d : Record) (x : Option (BitVec 16)) : { d with sent := x }.isFault = d.isFault := rfl

theorem countP_markSent (n : BitVec 16) (k : Nat) (l : List Record) :
    (markSent n k l).countP (fun d => !d.isFault) = l.countP (fun d => !d.isFault) := by
  induction l generalizing k with
  | nil => cases k <;> rfl
  | cons d l ih =>
    cases k with
    | zero => rfl
    | succ k => unfold markSent; split <;> simp [List.countP_cons, ih]

theorem State.Fits.revert (h : s.Fits) (f : Report → Report) (hf : ∀ r, (f r).records = r.records) :
    (s.withReport (f s.report.revert)).Fits := by
  refine h.of_records ?_ ?_
  · simp [hf, Report.revert]
  · simp [hf, Report.revert, List.countP_map, Function.comp_def]

theorem State.Fits.carry (h : s.Fits) (old new : Settings) : (s.withReport (s.report.carry old new)).Fits := by
  unfold Report.carry
  split
  · exact h.of_sublist (List.Sublist.refl _)
  · split
    · exact h.of_sublist (List.Sublist.refl _)
    · exact h.revert (fun r => { r with state := .polled, resend := 0 }) fun _ => rfl

theorem forward_engineReset (s : State) : s.engineReset.forward = s.releaseAll.forward := rfl

/-- The frames that a reset releases: those of the discarded FRAME events and that of the burst in progress (R4, R19). -/
def State.heldIds (s : State) : List Nat := s.intake.filterMap Event.frameId ++ (s.burst.bind Burst.frame).toList

theorem forward_releaseAll (s : State) : s.releaseAll.forward
    = { s.forward with
        frames := s.forward.frames.map fun f => if f.id ∈ s.heldIds then { f with held := false } else f } :=
  foldl_release _ _

theorem effect_fits (s t : State) (e : Effect w s t) (h : s.Fits) : t.Fits := by
  cases e with
  | raise _ k d => exact keeps_raiseFault part_fits k d h
  | record _ st b => exact keeps_settle part_fits (keeps_offerRecord part_fits st b h)
  | stop => exact keeps_stopEngine part_fits h
  | intake _ x hx => exact ⟨hx.trans (max_le le_rfl h.intake), h.forward, h.records, h.others, h.firings⟩
  | forward _ x hx => exact ⟨h.intake, hx.trans (max_le le_rfl h.forward), h.records, h.others, h.firings⟩
  | burst _ b room =>
    refine ⟨h.intake, h.forward, h.records, h.others, fun c hc => ?_⟩
    obtain rfl : b = c := by simpa using hc
    exact room.elim id fun ⟨a, ha, le⟩ => le.trans (h.firings a ha)
  | ended => exact ⟨h.intake, h.forward, h.records, h.others, fun _ hb => by cases hb⟩
  | closeCounted _ limit =>
    refine h.of_sublist ?_
    unfold Report.countClose
    split <;> exact List.Sublist.refl _
  | acknowledged => exact h.of_sublist List.filter_sublist
  | drained _ n => exact h.of_sublist (List.drop_sublist _ _)
  | resumed => exact h.of_sublist (List.Sublist.refl _)
  | reverted _ n st => exact h.revert (fun r => { r with resend := n, state := st }) fun _ => rfl
  | built _ n => exact h.of_records (length_markSent _ _ _).le (countP_markSent _ _ _).le
  | swapBanks =>
    exact (h.carry s.banks.active.settings s.banks.staging.settings).of_eq (by simp) (by simp) (report_swapBanks s) (by simp)
  | reset =>
    refine ⟨Nat.zero_le _, ?_, Nat.zero_le _, Nat.zero_le _, fun _ hb => by cases hb⟩
    rw [forward_engineReset, forward_releaseAll]
    simpa using h.forward
  | deviceReset => exact ⟨Nat.zero_le _, Nat.zero_le _, Nat.zero_le _, Nat.zero_le _, fun _ hb => by cases hb⟩
  | clearCounters => exact h.of_eq rfl rfl rfl rfl
  | _ => exact h.of_eq rfl rfl rfl rfl

end Sys2Proof.Machine
end

section
/-! SUPPORT. What waits at the Agent: requests in the Inbox and in execution, responses, and the broadcast stop. The commands
touch them in few ways, each a turn of the Agent; the sizes of its queues and what waits on the burst are kept by every turn. -/

namespace Sys2Proof.Machine

variable {s t u : State} {q : Request} {w : Bool}

/-! Effects that leave what waits. -/

/-- What waits at the Agent is in `t` as in `s`, but that a broadcast stop may have been taken. -/
structure State.KeepsAgent (s t : State) : Prop where
  inbox : t.agent.inbox = s.agent.inbox
  responses : t.agent.responses = s.agent.responses
  hold : t.agent.hold = s.agent.hold
  stop : t.agent.stopClaim = true → s.agent.stopClaim = true

/-- The burst that it waits on is in progress still. -/
structure State.KeepsWaiting (s t : State) : Prop extends s.KeepsAgent t where
  burst : s.burst.isSome = true → t.burst.isSome = true

theorem State.KeepsAgent.of_eq (h : t.agent = s.agent) : s.KeepsAgent t := ⟨by rw [h], by rw [h], by rw [h], by rw [h]; exact id⟩

theorem State.KeepsWaiting.of_eq (ha : t.agent = s.agent) (hb : t.burst = s.burst) : s.KeepsWaiting t :=
  ⟨.of_eq ha, by rw [hb]; exact id⟩

theorem State.KeepsAgent.trans (a : s.KeepsAgent t) (b : t.KeepsAgent u) : s.KeepsAgent u :=
  ⟨b.inbox.trans a.inbox, b.responses.trans a.responses, b.hold.trans a.hold, fun h => a.stop (b.stop h)⟩

theorem State.KeepsWaiting.trans (a : s.KeepsWaiting t) (b : t.KeepsWaiting u) : s.KeepsWaiting u :=
  ⟨a.toKeepsAgent.trans b.toKeepsAgent, fun h => b.burst (a.burst h)⟩

theorem part_keepsWaiting (v s t : State) (p : FaultPart s t) (h : v.KeepsWaiting s) : v.KeepsWaiting t := by
  refine h.trans ?_
  cases p with
  | cleanup => exact ⟨.of_eq (by simp), by simp⟩
  | _ => exact .of_eq rfl rfl

theorem effect_keepsWaiting (v s t : State) (e : Effect false s t) (h : v.KeepsWaiting s) : v.KeepsWaiting t := by
  cases e with
  | raise _ k d => exact keeps_raiseFault (part_keepsWaiting v) k d h
  | record _ st b => exact keeps_settle (part_keepsWaiting v) (keeps_offerRecord (part_keepsWaiting v) st b h)
  | stop => exact keeps_stopEngine (part_keepsWaiting v) h
  | session => exact h.trans ⟨⟨rfl, rfl, rfl, id⟩, id⟩
  | stopTaken => exact h.trans ⟨⟨rfl, rfl, rfl, fun hs => by cases hs⟩, id⟩
  | burst => exact h.trans ⟨.of_eq rfl, fun _ => rfl⟩
  | swapBanks => exact h.trans (.of_eq (by simp) (by simp))
  | clearCounters => exact h.trans (.of_eq rfl rfl)
  | _ => exact h.trans (.of_eq rfl rfl)

/-- Effects that leave what waits, one after the other. -/
theorem Reaches.keepsWaiting (r : Reaches false s t) : s.KeepsWaiting t := r.keeps (effect_keepsWaiting s) (.of_eq rfl rfl)

/-! Requests that are answered, and those that wait. -/

/-- A response has joined the Response Queue; nothing else of what waits has changed, but that a broadcast stop may have been
taken. -/
structure Answers (s t : State) : Prop where
  inbox : t.agent.inbox = s.agent.inbox
  responses : t.agent.responses.length = s.agent.responses.length + 1
  hold : t.agent.hold = s.agent.hold
  stop : t.agent.stopClaim = true → s.agent.stopClaim = true

/-- A request of a kind that a rule lets wait (R17, R22, R146, R151, R167). -/
def Request.Waits (q : Request) : Prop :=
  ∃ k ∈ [0x06#8, 0x08#8, 0x09#8, 0x0A#8, 0x0B#8, 0x0C#8, 0x0D#8, 0x0F#8], q.kind? = some k

/-- The request is answered, or waits on the burst in progress. -/
structure Serves (q : Request) (s t : State) : Prop where
  inbox : t.agent.inbox = s.agent.inbox
  outcome : t.agent.responses.length = s.agent.responses.length + 1 ∧ t.agent.hold = s.agent.hold
    ∨ t.agent.responses = s.agent.responses ∧ t.agent.hold = some q ∧ t.burst.isSome = true ∧ q.Waits
  stop : t.agent.stopClaim = true → s.agent.stopClaim = true ∧ (s.burst.isSome = true → t.burst.isSome = true)

theorem Answers.of_agent (k : s.KeepsAgent u) (r : Response) (c : Option Cached)
    (h : t.agent = { u.agent with responses := u.agent.responses ++ [r], cache := c }) : Answers s t :=
  ⟨by rw [h]; exact k.inbox, by rw [h]; simp [k.responses], by rw [h]; exact k.hold, by rw [h]; exact k.stop⟩

/-- Answering a request touches the Agent's queue of responses and its cache (R167, R172). -/
theorem agent_answer (s : State) (q : Request) (status : Byte) (body : List Byte) :
    ∃ r c, (s.answer q status body).agent = { s.agent with responses := s.agent.responses ++ [r], cache := c } := by
  unfold State.answer
  dsimp only
  split
  · exact ⟨_, _, rfl⟩
  · exact ⟨_, _, rfl⟩

theorem State.KeepsAgent.answers (k : s.KeepsAgent u) (q : Request) (status : Byte) (body : List Byte) :
    Answers s (u.answer q status body) :=
  let ⟨r, c, h⟩ := agent_answer u q status body
  .of_agent k r c h

theorem answers_of_agent_eq (h : u.agent = s.agent) (q : Request) (status : Byte) (body : List Byte) :
    Answers s (u.answer q status body) := (State.KeepsAgent.of_eq h).answers q status body

theorem Serves.of_answers (a : Answers s t) (hb : s.burst.isSome = true → t.burst.isSome = true) : Serves q s t :=
  ⟨a.inbox, .inl ⟨a.responses, a.hold⟩, fun h => ⟨a.stop h, hb⟩⟩

theorem Serves.of_keeps (a : Serves q u t) (k : s.KeepsWaiting u) : Serves q s t where
  inbox := a.inbox.trans k.inbox
  outcome := by rw [← k.responses, ← k.hold]; exact a.outcome
  stop on := ⟨k.stop (a.stop on).1, fun b => (a.stop on).2 (k.burst b)⟩

theorem serves_answer (r : Reaches false s u) (status : Byte) (body : List Byte) : Serves q s (u.answer q status body) :=
  .of_answers (r.keepsWaiting.answers q status body) (by simpa using r.keepsWaiting.burst)

theorem State.midFiring_burst (h : s.midFiring = true) : s.burst.isSome = true := by
  unfold State.midFiring at h
  split at h
  · rename_i hb; rw [hb]; rfl
  · cases h

theorem serves_waitFor (hb : s.burst.isSome = true) (hq : q.Waits) : Serves q s (s.waitFor q) :=
  ⟨rfl, .inr ⟨rfl, rfl, hb, hq⟩, fun h => ⟨h, id⟩⟩

theorem stopClaim_takeStopClaim (s : State) : s.takeStopClaim.agent.stopClaim = false := by
  unfold State.takeStopClaim
  split
  · simp
  · rename_i h; simpa using h

theorem takeStopClaim_keepsWaiting (s : State) : s.KeepsWaiting s.takeStopClaim := (reaches_takeStopClaim s).keepsWaiting

/-- A claim waits inside a firing; elsewhere it is taken, and with it a broadcast stop that waits (R17, R173). -/
theorem claim_serves {take : Request → State → State} (h : ∀ u, Answers u (take q u)) (hq : q.Waits) :
    Serves q s (claim take q s) := by
  unfold claim
  split
  · rename_i mid; exact serves_waitFor (State.midFiring_burst mid) hq
  · split
    · have taken : ∀ x : State, Answers s x → x.agent.stopClaim = false → Serves q s x.spend := fun x a off =>
        ⟨a.inbox, .inl ⟨a.responses, a.hold⟩, fun on => by rw [State.spend_agent, off] at on; cases on⟩
      unfold State.withStopClaim
      split
      · have k := takeStopClaim_keepsWaiting s
        have a := h s.takeStopClaim
        refine taken _ ⟨a.inbox.trans k.inbox, by rw [a.responses, k.responses], a.hold.trans k.hold,
          fun on => k.stop (a.stop on)⟩ ?_
        by_contra on
        have := a.stop (by simpa using on)
        rw [stopClaim_takeStopClaim] at this
        cases this
      · have a := h s
        have k := takeStopClaim_keepsWaiting (take q s)
        exact taken _ ⟨k.inbox.trans a.inbox, by rw [k.responses, a.responses], k.hold.trans a.hold,
          fun on => a.stop (k.stop on)⟩ (stopClaim_takeStopClaim _)
    · rename_i alone
      have a := h s
      exact ⟨a.inbox, .inl ⟨a.responses, a.hold⟩, fun on => absurd (a.stop on) alone⟩

/-! The claims. -/

theorem KeepsAgent.engineReset (s : State) : s.KeepsAgent s.engineReset := .of_eq (by simp)

theorem KeepsAgent.configClear (s : State) : s.KeepsAgent s.configClear := .of_eq (by simp)

theorem answers_takeRun (q : Request) (s : State) : Answers s (takeRun q s) := by
  unfold takeRun
  split
  · exact answers_of_agent_eq (by rfl) q _ _
  · exact answers_of_agent_eq (by rfl) q _ _

theorem answers_takeStop (q : Request) (s : State) : Answers s (takeStop q s) :=
  answers_of_agent_eq (by simp) q _ _

theorem answers_takeReset (q : Request) (s : State) : Answers s (takeReset q s) := (KeepsAgent.engineReset s).answers q _ _

theorem answers_takeClear (q : Request) (s : State) : Answers s (takeClear q s) := (KeepsAgent.configClear s).answers q _ _

theorem answers_takeEnable (q : Request) (s : State) : Answers s (takeEnable q s) := by
  unfold takeEnable
  split
  · exact answers_of_agent_eq (by rfl) q _ _
  · exact answers_of_agent_eq (by rfl) q _ _

theorem answers_takeDisable (q : Request) (s : State) : Answers s (takeDisable q s) := by
  unfold takeDisable
  exact answers_of_agent_eq (by rfl) q _ _

theorem serves_answerRuntime (q : Request) (s : State) : Serves q s (answerRuntime q s) := by
  unfold answerRuntime
  split
  · split
    · exact serves_answer .refl _ _
    · split <;> exact serves_answer .refl _ _
  · exact serves_answer .refl _ _

theorem answers_answerRuntime (q : Request) (s : State) : Answers s (answerRuntime q s) := by
  unfold answerRuntime
  split
  · split
    · exact answers_of_agent_eq (by rfl) q _ _
    · split <;> exact answers_of_agent_eq (by rfl) q _ _
  · exact answers_of_agent_eq (by rfl) q _ _

theorem answers_finishCommit (q : Request) (s : State) : Answers s (finishCommit q s) :=
  (reaches_swap s).keepsWaiting.answers q _ _

theorem answers_claimOf {k : Byte} {take : Request → State → State} (h : claimOf k = some take) (q : Request) (s : State) :
    Answers s (take q s) := by
  unfold claimOf at h
  split at h <;> cases h
  · exact answers_takeRun q s
  · exact answers_takeStop q s
  · exact answers_takeReset q s
  · exact answers_takeClear q s
  · exact answers_takeEnable q s
  · exact answers_takeDisable q s
  · exact answers_answerRuntime q s

/-! The requests. -/

theorem serves_openSession (q : Request) (s : State) : Serves q s (openSession q s) := by
  unfold openSession
  dsimp only
  split
  · exact serves_answer (Effect.session s _ _).reaches _ _
  · split
    · exact serves_answer (Effect.session s _ _).reaches _ _
    · exact serves_answer .refl _ _

theorem serves_closeSession (q : Request) (s : State) : Serves q s (closeSession q s) :=
  serves_answer (Effect.session s _ _).reaches _ _

theorem serves_writeTable (q : Request) (s : State) : Serves q s (writeTable q s) := by
  unfold writeTable
  split
  · exact serves_answer .refl _ _
  · split
    · exact serves_answer .refl _ _
    · split
      · exact serves_answer (Effect.banks s _ (by rfl)).reaches _ _
      · exact serves_answer .refl _ _

theorem serves_readTable (q : Request) (s : State) : Serves q s (readTable q s) := by
  unfold readTable
  split
  · split
    · exact serves_answer .refl _ _
    · split
      · exact serves_answer .refl _ _
      · split <;> exact serves_answer .refl _ _
  · exact serves_answer .refl _ _

theorem serves_commitStaging (hq : q.Waits) (s : State) : Serves q s (commitStaging q s) := by
  unfold commitStaging acceptCommit
  split
  · exact serves_answer .refl _ _
  · split
    · exact serves_answer .refl _ _
    · split
      · exact serves_answer (Effect.banks s _ (by rfl)).reaches _ _
      · split
        · exact serves_answer (reaches_swap s) _ _
        · rename_i busy
          exact serves_waitFor (Option.isSome_iff_ne_none.mpr (by simpa using busy)) hq

theorem serves_abortCommit (q : Request) (s : State) : Serves q s (abortCommit q s) := by
  unfold abortCommit
  split
  · exact serves_answer ((Effect.banks s _ (by rfl)).reaches.trans (reaches_dropCarry _)) _ _
  · exact serves_answer .refl _ _

theorem serves_fireTriggers (q : Request) (s : State) : Serves q s (fireTriggers q s) := by
  unfold fireTriggers
  split
  · exact serves_answer .refl _ _
  · split
    · rename_i room; exact serves_answer (reaches_appendEvent _ room) _ _
    · exact serves_answer .refl _ _

theorem serves_readRuntime (hq : q.Waits) (s : State) : Serves q s (readRuntime q s) := by
  unfold readRuntime
  split
  · exact claim_serves (answers_answerRuntime q) hq
  · exact serves_answerRuntime q s

theorem serves_ackReport (q : Request) (s : State) : Serves q s (ackReport q s) := by
  unfold ackReport
  split
  · split
    · split
      · exact serves_answer (Effect.acknowledged s _).reaches _ _
      · exact serves_answer .refl _ _
    · exact serves_answer .refl _ _
  · exact serves_answer .refl _ _

theorem serves_readReport (q : Request) (s : State) : Serves q s (readReport q s) := by
  unfold readReport
  split
  · split
    · split
      · exact serves_answer .refl _ _
      · rename_i h; exact serves_answer (Effect.drained s _ h).reaches _ _
    · exact serves_answer .refl _ _
  · exact serves_answer .refl _ _

theorem serves_resumeReport (q : Request) (s : State) : Serves q s (resumeReport q s) := by
  unfold resumeReport
  split
  · exact serves_answer (Effect.resumed s).reaches _ _
  · exact serves_answer .refl _ _

theorem serves_clearFaults (q : Request) (s : State) : Serves q s (clearFaults q s) := by
  unfold clearFaults
  split
  · split
    · refine serves_answer (Effect.flags s _ fun k => ?_).reaches _ _
      rw [Tab.get_mapIdx]
      split <;> rfl
    · exact serves_answer .refl _ _
  · exact serves_answer .refl _ _

theorem serves_readCounters (q : Request) (s : State) : Serves q s (readCounters q s) := by
  unfold readCounters
  split <;> exact serves_answer .refl _ _

theorem serves_readAndClearCounters (q : Request) (s : State) : Serves q s (readAndClearCounters q s) :=
  serves_answer (Effect.clearCounters s).reaches _ _

theorem serves_bare {run : Request → State → State} (h : ∀ u, Serves q u (run q u)) : Serves q s (bare run q s) := by
  unfold bare
  split
  · exact h s
  · exact serves_answer .refl _ _

theorem serves_withTriggerSet {run : Request → State → State} (h : ∀ u, Serves q u (run q u)) :
    Serves q s (withTriggerSet run q s) := by
  unfold withTriggerSet
  split
  · exact serves_answer .refl _ _
  · split
    · exact h s
    · exact serves_answer .refl _ _

/-! The turns of the Agent. -/

/-- One turn of what waits at the Agent. -/
inductive Turn : State → State → Prop
  | calm (s t : State) (h : s.KeepsWaiting t) : Turn s t
  | arrival (s : State) (q : Request) (h : s.agent.inbox.length < 4) :
      Turn s (s.withAgent { s.agent with inbox := s.agent.inbox ++ [q] })
  | stopWaits (s : State) (h : s.midFiring = true) : Turn s (s.withAgent { s.agent with stopClaim := true })
  | sent (s : State) (r : Response) (rest : List Response) (h : s.agent.responses = r :: rest) :
      Turn s (s.withAgent { s.agent with responses := rest })
  | served (s t : State) (q : Request) (rest : List Request) (head : s.agent.inbox = q :: rest) (free : s.agent.hold = none)
      (room : s.agent.responses.length < 4) (h : Serves q (s.withAgent { s.agent with inbox := rest }) t) : Turn s t
  | burst (s : State) : Turn s s.burstStep
  | deviceReset (s : State) (a : Byte) (tin : BitVec 4) : Turn s (s.afterReset a tin)

/-- `t` comes of `s` by turns one after the other. -/
abbrev Turns : State → State → Prop := Relation.ReflTransGen Turn

theorem Reaches.turns (r : Reaches false s t) : Turns s t := .single (.calm _ _ r.keepsWaiting)

/-- The outcome is a next state that turns lead to. -/
def TurnsTo (s : State) (r : Result) : Prop := ∃ t, r = .next t ∧ Turns s t

theorem TurnsTo.of (h : Turns s t) : TurnsTo s (.next t) := ⟨t, rfl, h⟩

theorem Completes.turnsTo {r : Result} (h : Completes false s r) : TurnsTo s r :=
  let ⟨t, ht, reached⟩ := h
  ⟨t, ht, reached.turns⟩

/-- A request that a row takes is of the row's kind or of no known kind (log 24). -/
theorem kind_of_ofKind {n : Nat} (hm : ofKind n q = true) (hk : (q.kind?.map knownKind).getD false = true) :
    ∃ c, q.kind? = some c ∧ c.toNat = n := by
  unfold ofKind at hm
  split at hm
  · rename_i c hc
    refine ⟨c, hc, ?_⟩
    rw [hc] at hk
    have known : knownKind c = true := hk
    simpa [known] using hm
  · rename_i hc; rw [hc] at hk; cases hk

theorem turns_serve {mine needs : Request → Bool} {run : Request → State → State}
    (h : ∀ q u, mine q = true → (q.kind?.map knownKind).getD false = true → Serves q u (run q u)) (s : State) :
    Turns s (serve mine needs run s) := by
  unfold serve
  split
  · exact .refl
  · rename_i q rest head
    split
    · rename_i ready
      obtain ⟨⟨free, room⟩, hm⟩ : (s.agent.hold = none ∧ s.agent.responses.length < 4) ∧ mine q = true := by
        simpa using ready
      have served {t : State} (hs : Serves q (s.withAgent { s.agent with inbox := rest }) t) : Turns s t :=
        .single (.served s t q rest head free room hs)
      dsimp only
      split
      · exact served ⟨rfl, .inl ⟨by simp [State.answerHeaderFault, Agent.push], rfl⟩, fun on => ⟨on, id⟩⟩
      · split
        · exact served ⟨rfl, .inl ⟨by simp [Agent.restartLease, Agent.push], rfl⟩, fun on => ⟨on, id⟩⟩
        · split
          · exact served (serves_answer .refl _ _)
          · rename_i known
            have known : (q.kind?.map knownKind).getD false = true := by simpa using known
            split
            · split
              · exact served ((h q (_ : State) hm known).of_keeps ⟨⟨rfl, rfl, rfl, id⟩, id⟩)
              · exact served (serves_answer .refl _ _)
            · exact served (h q _ hm known)
    · exact .refl

theorem turnsTo_serve {mine needs : Request → Bool} {run : Request → State → State}
    (h : ∀ q u, mine q = true → (q.kind?.map knownKind).getD false = true → Serves q u (run q u)) (s : State) :
    TurnsTo s (.next (serve mine needs run s)) := .of (turns_serve h s)

/-- A row whose requests may wait. -/
theorem waits_of_ofKind {n : Nat} {k : Byte} (hk : k.toNat = n)
    (hw : k ∈ [0x06#8, 0x08#8, 0x09#8, 0x0A#8, 0x0B#8, 0x0C#8, 0x0D#8, 0x0F#8]) (hm : ofKind n q = true)
    (known : (q.kind?.map knownKind).getD false = true) : q.Waits := by
  obtain ⟨c, hc, hn⟩ := kind_of_ofKind hm known
  obtain rfl : c = k := BitVec.eq_of_toNat_eq (hn.trans hk.symm)
  exact ⟨c, hw, hc⟩

theorem turns_onFrame {run : FrameView → State → State} (h : ∀ v u, Turns u (run v u)) (f : Frame)
    (mine : FrameView → Bool) (s : State) : Turns s (onFrame f mine run s) := by
  unfold onFrame
  split
  · split
    · split
      · exact (reaches_receive s f).turns.trans (h _ _)
      · exact .refl
    · exact .refl
  · exact (reaches_hearFrame s f).turns

theorem turns_takeRequest (s : State) (v : FrameView) : Turns s (s.takeRequest v) := by
  unfold State.takeRequest
  split
  · rename_i room; exact .single (.arrival s _ room)
  · exact (reaches_bump s _).turns

theorem turns_takeBroadcast (s : State) (q : Request) : Turns s (s.takeBroadcast q) := by
  unfold State.takeBroadcast State.broadcastStop
  split
  · dsimp only
    split
    · rename_i mid; exact .single (.stopWaits s mid)
    · refine .single (.calm s _ ?_)
      have k := takeStopClaim_keepsWaiting (s.withAgent { s.agent with stopClaim := true })
      exact ⟨⟨k.inbox, k.responses, k.hold, fun on => by rw [stopClaim_takeStopClaim] at on; cases on⟩, k.burst⟩
  · exact (reaches_bump s _).turns

theorem turns_enterAnd {given : State → State} (h : ∀ u, Turns u (given u)) (s : State) (f : Frame) :
    Turns s (s.enterAnd f given) := by
  cases room : s.bufferRoom with
  | true => rw [enterAnd_room f given room]; exact (reaches_appendFrame f false room).turns.trans (h _)
  | false =>
    obtain first | last := enterAnd_full s f given room
    · rw [first]; exact (reaches_overrun s f).turns.trans (h _)
    · rw [last]; exact (h s).trans (reaches_overrun _ f).turns

theorem turnsTo_insertionStart (s : State) : TurnsTo s (execInsertionStart s) := by
  refine .of ?_
  split
  · split
    · rename_i r rest hr
      have popped : Turn s.finishSending (s.finishSending.withAgent { s.agent with responses := rest }) := by
        have := Turn.sent s.finishSending r rest (by simpa using hr)
        simpa using this
      exact ((reaches_finishSending s).turns.tail popped).trans
        (Reaches.turns ((reaches_countInsertion _).trans (reaches_transmit _ _)))
    · split
      · exact .single (.calm _ _ (.of_eq (by simp) (by simp)))
      · exact .refl
  · exact .refl

theorem turns_runBurst (n : Nat) (s : State) : Turns s (s.runBurst n) := by
  induction n generalizing s with
  | zero => exact .refl
  | succ n ih =>
    unfold State.runBurst
    split
    · exact .head (.burst s) (ih _)
    · exact .refl

theorem turns_fireAll {enter : State → State} (h : ∀ u : State, u.Acts → Reaches false u (enter u)) (s : State)
    (m : BurstMode) : Turns s (s.fireAll m enter) := by
  have entered : Turns s (if s.engine = .running then enter s else s) := by
    split
    · rename_i running; exact (h s (.of_running running)).turns
    · exact .refl
  cases m with
  | whole => exact entered.trans (turns_runBurst _ _)
  | stepwise => exact entered

theorem turnsTo_take (e : Event) (m : BurstMode) (s : State) : TurnsTo s (exec (takeIn m e) s) := by
  cases e with
  | frame =>
    show TurnsTo s (execTakeFrameEvent m s)
    unfold execTakeFrameEvent
    split
    · rename_i h
      exact .of ((Reaches.turns ((reaches_begun h _ _ _).trans (reaches_sampleFrame _ _ _))).trans
        (turns_fireAll (fun _ => reaches_addProducts _) _ m))
    · exact .of .refl
  | inputEdge =>
    show TurnsTo s (execTakeInputEdge m s)
    unfold execTakeInputEdge
    split
    · rename_i h; exact .of ((reaches_begun h _ _ _).turns.trans (turns_fireAll (fun _ => reaches_derive _) _ m))
    · exact .of .refl
  | timerExpiry =>
    show TurnsTo s (execTakeTimerExpiry m s)
    unfold execTakeTimerExpiry
    split
    · rename_i h; exact .of ((reaches_begun h _ _ _).turns.trans (turns_fireAll (fun _ => reaches_derive _) _ m))
    · exact .of .refl
  | cycleStart =>
    show TurnsTo s (execTakeCycleStart m s)
    unfold execTakeCycleStart
    split
    · rename_i h; exact .of ((reaches_begun h _ _ _).turns.trans (turns_fireAll (fun _ => reaches_derive _) _ m))
    · exact .of .refl
  | cycleClose =>
    show TurnsTo s (execTakeCycleClose m s)
    unfold execTakeCycleClose
    split
    · rename_i h
      exact .of ((Reaches.turns ((reaches_begun h _ _ _).trans (reaches_settleChannels _ _ fun _ _ => ChannelRt.close_seen))).trans
        (turns_fireAll (fun _ => reaches_addProducts _) _ m))
    · exact .of .refl
  | cycleLost =>
    show TurnsTo s (execTakeCycleLost m s)
    unfold execTakeCycleLost
    split
    · rename_i h
      exact .of ((Reaches.turns ((reaches_begun h _ _ _).trans (reaches_settleChannels _ _ fun _ _ => ChannelRt.lose_seen))).trans
        (turns_fireAll (fun _ => reaches_addProducts _) _ m))
    · exact .of .refl
  | fireRequest =>
    show TurnsTo s (execTakeFireRequest m s)
    unfold execTakeFireRequest
    split
    · rename_i h; exact .of ((reaches_begun h _ _ _).turns.trans (turns_fireAll (fun _ => reaches_addNamed _) _ m))
    · exact .of .refl

/-- Every command is turns of the Agent one after the other. -/
theorem exec_turns (c : Instr) (s : State) : TurnsTo s (exec c s) := by
  have st : Stamp := ⟨0#16, 0⟩
  cases c with
  | deviceReset a tin => exact .of (.single (.deviceReset s a tin))
  | portSignalDetect p => exact (completes_portSignalDetect p s).turnsTo
  | portAligned p l => exact (completes_portAligned p l s).turnsTo
  | portSignalLoss p => exact (completes_portSignalLoss p s).turnsTo
  | portBadWordLimit p l => exact (completes_portBadWordLimit p l s).turnsTo
  | cycleStartFrame f => exact (completes_cycleStartFrame f s).turnsTo
  | cycleCloseFrame f => exact (completes_cycleCloseFrame f s).turnsTo
  | processFrame f => exact (Completes.of (reaches_onFrame (fun v u => reaches_takeProcess u f v) f _ s)).turnsTo
  | managementFrame f => exact .of (turns_onFrame (fun v u => turns_takeRequest u v) f _ s)
  | broadcastManagementFrame f =>
    exact .of (turns_onFrame (fun _ u => turns_enterAnd (fun x => turns_takeBroadcast x _) u f) f _ s)
  | ownFrameReturn f => exact (Completes.of (reaches_onFrame (fun _ _ => .refl) f _ s)).turnsTo
  | otherFrame f => exact (Completes.of (reaches_onFrame (fun _ u => reaches_enter u f) f _ s)).turnsTo
  | failedCheckFrame f => exact (completes_failedCheckFrame f s).turnsTo
  | forwardRelease => exact (completes_forwardRelease s).turnsTo
  | insertionStart => exact turnsTo_insertionStart s
  | trackerTimeout => exact (completes_trackerTimeout s).turnsTo
  | reportTimeout => exact (completes_reportTimeout s).turnsTo
  | sessionLeaseExpiry => exact (completes_sessionLeaseExpiry s).turnsTo
  | timerExpiry k => exact (completes_timerExpiry k s).turnsTo
  | pulseEnd j => exact (completes_pulseEnd j s).turnsTo
  | inputPinChange k high => exact (Completes.of (Effect.pin s k high).reaches).turnsTo
  | inputEdgeAccept k => exact (completes_inputEdgeAccept k s).turnsTo
  | takeFrameEvent m => exact turnsTo_take (.frame 0 0#8 st) m s
  | takeInputEdge m => exact turnsTo_take (.inputEdge 0 true 0#4 st) m s
  | takeTimerExpiry m => exact turnsTo_take (.timerExpiry 0 st) m s
  | takeCycleStart m => exact turnsTo_take (.cycleStart 0#16 st) m s
  | takeCycleClose m => exact turnsTo_take (.cycleClose st) m s
  | takeCycleLost m => exact turnsTo_take (.cycleLost st) m s
  | takeFireRequest m => exact turnsTo_take (.fireRequest 0#48 st) m s
  | sessionOpen => exact turnsTo_serve (fun q _ _ _ => serves_bare (serves_openSession q)) s
  | sessionClose => exact turnsTo_serve (fun q _ _ _ => serves_bare (serves_closeSession q)) s
  | statusRead => exact turnsTo_serve (fun q _ _ _ => serves_bare fun _ => serves_answer .refl _ _) s
  | tableWrite => exact turnsTo_serve (fun q u _ _ => serves_writeTable q u) s
  | tableRead => exact turnsTo_serve (fun q u _ _ => serves_readTable q u) s
  | commit =>
    exact turnsTo_serve (fun q _ hm hk =>
      serves_bare (serves_commitStaging (waits_of_ofKind (k := 0x06#8) (by rfl) (by decide) hm hk))) s
  | commitAbort => exact turnsTo_serve (fun q _ _ _ => serves_bare (serves_abortCommit q)) s
  | engineRun =>
    exact turnsTo_serve (fun q _ hm hk => serves_bare fun _ => claim_serves (answers_takeRun q)
      (waits_of_ofKind (k := 0x08#8) (by rfl) (by decide) hm hk)) s
  | engineStop =>
    exact turnsTo_serve (fun q _ hm hk => serves_bare fun _ => claim_serves (answers_takeStop q)
      (waits_of_ofKind (k := 0x09#8) (by rfl) (by decide) hm hk)) s
  | engineReset =>
    exact turnsTo_serve (fun q _ hm hk => serves_bare fun _ => claim_serves (answers_takeReset q)
      (waits_of_ofKind (k := 0x0A#8) (by rfl) (by decide) hm hk)) s
  | configClear =>
    exact turnsTo_serve (fun q _ hm hk => serves_bare fun _ => claim_serves (answers_takeClear q)
      (waits_of_ofKind (k := 0x0B#8) (by rfl) (by decide) hm hk)) s
  | triggerEnable =>
    exact turnsTo_serve (fun q _ hm hk => serves_withTriggerSet fun _ => claim_serves (answers_takeEnable q)
      (waits_of_ofKind (k := 0x0C#8) (by rfl) (by decide) hm hk)) s
  | triggerDisable =>
    exact turnsTo_serve (fun q _ hm hk => serves_withTriggerSet fun _ => claim_serves (answers_takeDisable q)
      (waits_of_ofKind (k := 0x0D#8) (by rfl) (by decide) hm hk)) s
  | triggerFire => exact turnsTo_serve (fun q _ _ _ => serves_withTriggerSet (serves_fireTriggers q)) s
  | runtimeRead =>
    exact turnsTo_serve (fun q u hm hk => serves_readRuntime (waits_of_ofKind (k := 0x0F#8) (by rfl) (by decide) hm hk) u) s
  | reportAck => exact turnsTo_serve (fun q u _ _ => serves_ackReport q u) s
  | reportRead => exact turnsTo_serve (fun q u _ _ => serves_readReport q u) s
  | reportResume => exact turnsTo_serve (fun q _ _ _ => serves_bare (serves_resumeReport q)) s
  | faultRead => exact turnsTo_serve (fun q _ _ _ => serves_bare fun _ => serves_answer .refl _ _) s
  | faultClear => exact turnsTo_serve (fun q u _ _ => serves_clearFaults q u) s
  | counterRead => exact turnsTo_serve (fun q u _ _ => serves_readCounters q u) s
  | counterReadClear => exact turnsTo_serve (fun q u _ _ => serves_readAndClearCounters q u) s

theorem perform_turns (a : Activity) (s : State) : TurnsTo s (a.perform s) := by
  cases a with
  | command c => exact exec_turns c s
  | burst => exact .of (.single (.burst s))
  | sent => exact .of (reaches_finishSending s).turns
  | time => exact .of (reaches_tick s).turns

theorem idle_turns (s : State) : TurnsTo s s.idle := by
  unfold State.idle
  split
  · exact .of .refl
  · exact perform_turns _ s
  · obtain ⟨t, ht, r⟩ := perform_turns (s.activities.getD (s.pickBelow s.activities.length) .time) s.spend
    exact ⟨t, ht, (reaches_spend s).turns.trans r⟩

theorem step_turns (h : step s = .next t) : Turns s t := by
  unfold step at h
  split at h
  · obtain ⟨v, hv, r⟩ := idle_turns s
    obtain rfl : v = t := by simpa [h] using hv.symm
    exact r
  · rename_i c rest _
    obtain ⟨v, hv, r⟩ := exec_turns c (s.withPending rest)
    obtain rfl : v = t := by simpa [h] using hv.symm
    exact (Effect.queue s rest).reaches.turns.trans r

/-- What every turn keeps, every step keeps. -/
theorem step_keeps_of_turns {P : State → Prop} (keeps : ∀ s t, Turn s t → P s → P t) (hs : P s) (h : step s = .next t) :
    P t := by
  have r := step_turns h
  clear h
  induction r with
  | refl => exact hs
  | tail _ turn ih => exact keeps _ _ turn ih

end Sys2Proof.Machine
end

section
/-! SUPPORT. The turns keep the bounds of the Agent's queues, and what waits, waits on a burst in progress. -/

namespace Sys2Proof.Machine

variable {s t u : State} {q : Request}

/-! A step of the burst, as what waits sees it. -/

/-- The request that waits goes on waiting, or is answered and waits no more. -/
structure Releases (s t : State) : Prop where
  inbox : t.agent.inbox = s.agent.inbox
  outcome : t.agent.responses = s.agent.responses ∧ t.agent.hold = s.agent.hold
    ∨ t.agent.responses.length = s.agent.responses.length + 1 ∧ s.agent.hold.isSome = true ∧ t.agent.hold = none
  stop : t.agent.stopClaim = true → s.agent.stopClaim = true

theorem State.KeepsAgent.releases (k : s.KeepsAgent t) : Releases s t := ⟨k.inbox, .inl ⟨k.responses, k.hold⟩, k.stop⟩

theorem releases_of_answers (h : s.agent.hold = some q) (a : Answers s.unhold t) : Releases s t :=
  ⟨a.inbox, .inr ⟨a.responses, by simp [h], a.hold⟩, a.stop⟩

theorem Releases.trans (a : Releases s t) (b : Releases t u) : Releases s u := by
  refine ⟨b.inbox.trans a.inbox, ?_, fun on => a.stop (b.stop on)⟩
  obtain ⟨ra, ha⟩ | ⟨ra, sa, ha⟩ := a.outcome
  · rw [← ra, ← ha]; exact b.outcome
  · obtain ⟨rb, hb⟩ | ⟨rb, sb, hb⟩ := b.outcome
    · exact .inr ⟨by rw [rb, ra], sa, hb.trans ha⟩
    · simp [ha] at sb

/-- The request that waits for a burst's end is finished; another goes on waiting (R146). -/
theorem finishHeld_cases (s : State) :
    s.finishHeld = s ∧ (∀ q, s.agent.hold = some q → q.kind? ≠ some 0x06#8)
    ∨ ∃ q, s.agent.hold = some q ∧ Answers s.unhold s.finishHeld := by
  unfold State.finishHeld
  split
  · rename_i q hq
    split
    · exact .inr ⟨q, hq, answers_finishCommit q _⟩
    · rename_i hk
      refine .inl ⟨rfl, fun r hr => ?_⟩
      obtain rfl : q = r := by simpa [hq] using hr
      exact hk
  · rename_i hq; exact .inl ⟨rfl, fun r hr => by simp [hq] at hr⟩

/-- The claim that waits is taken; a request that has none goes on waiting (R17). -/
theorem takeHeld_cases (s : State) :
    s.takeHeld = s ∧ (∀ q, s.agent.hold = some q → q.kind?.bind claimOf = none)
    ∨ ∃ q, s.agent.hold = some q ∧ Answers s.unhold s.takeHeld := by
  unfold State.takeHeld
  split
  · rename_i q hq
    split
    · rename_i h
      obtain ⟨k, -, hk⟩ := Option.bind_eq_some_iff.mp h
      exact .inr ⟨q, hq, answers_claimOf hk q _⟩
    · rename_i h
      refine .inl ⟨rfl, fun r hr => ?_⟩
      obtain rfl : q = r := by simpa [hq] using hr
      exact h
  · rename_i hq; exact .inl ⟨rfl, fun r hr => by simp [hq] at hr⟩

theorem releases_finishHeld (s : State) : Releases s s.finishHeld := by
  obtain ⟨h, -⟩ | ⟨q, hq, a⟩ := finishHeld_cases s
  · rw [h]; exact (State.KeepsAgent.of_eq rfl).releases
  · exact releases_of_answers hq a

theorem releases_takeHeld (s : State) : Releases s s.takeHeld := by
  obtain ⟨h, -⟩ | ⟨q, hq, a⟩ := takeHeld_cases s
  · rw [h]; exact (State.KeepsAgent.of_eq rfl).releases
  · exact releases_of_answers hq a

/-- The last work of a burst leaves what waits, up to the request that waits for the burst's end. -/
theorem endBurst_eq_finishHeld (s : State) (b : Burst) : ∃ u, s.KeepsAgent u ∧ s.endBurst b = u.finishHeld := by
  unfold State.endBurst
  refine ⟨_, ?_, rfl⟩
  have ended (v : State) : v.KeepsAgent
      (if b.carriesSwap && (v.withBurst none).banks.commitPending then (v.withBurst none).swap else v.withBurst none) := by
    have gone : v.KeepsAgent (v.withBurst none) := .of_eq rfl
    split
    · exact gone.trans (reaches_swap _).keepsWaiting.toKeepsAgent
    · exact gone
  cases b.frame with
  | none => exact ended s
  | some id => exact (Reaches.keepsWaiting (reaches_patchAndRelease s id)).toKeepsAgent.trans (ended _)

/-- A step of the burst inside it, or its end. -/
theorem burstWork_cases (s : State) : s.KeepsWaiting s.burstWork ∨ ∃ u, s.KeepsAgent u ∧ s.burstWork = u.finishHeld := by
  unfold State.burstWork
  split
  · exact .inl (.of_eq rfl rfl)
  · rename_i b hb
    split
    · rename_i hf; exact .inl (reaches_settle_stepFiring hb hf).keepsWaiting
    · rename_i hp; exact .inl (reaches_takeEntry hb hp).keepsWaiting
    · exact .inr (endBurst_eq_finishHeld s b)

theorem releases_burstWork (s : State) : Releases s s.burstWork := by
  obtain k | ⟨u, k, h⟩ := burstWork_cases s
  · exact k.toKeepsAgent.releases
  · rw [h]; exact k.releases.trans (releases_finishHeld u)

theorem releases_serveClaims (s : State) : Releases s s.serveClaims := by
  have stopped (v : State) : Releases v v.takeStopClaim := (takeStopClaim_keepsWaiting v).toKeepsAgent.releases
  unfold State.serveClaims
  split
  · exact (State.KeepsAgent.of_eq rfl).releases
  · split
    · unfold State.withStopClaim
      split
      · exact ((stopped s).trans (releases_takeHeld _)).trans (State.KeepsAgent.of_eq (by simp)).releases
      · exact ((releases_takeHeld s).trans (stopped _)).trans (State.KeepsAgent.of_eq (by simp)).releases
    · exact (stopped s).trans (releases_takeHeld _)

theorem releases_burstStep (s : State) : Releases s s.burstStep := (releases_burstWork s).trans (releases_serveClaims _)

/-! The bounds of the queues. -/

/-- The Inbox and the Response Queue hold no more than they have places for (R166, R167). -/
structure Agent.Fits (a : Agent) : Prop where
  inbox : a.inbox.length ≤ 4
  responses : a.responses.length + bit a.hold.isSome ≤ 4

theorem turn_agentFits (s t : State) (h : Turn s t) (fits : s.agent.Fits) : t.agent.Fits := by
  obtain ⟨inbox, responses⟩ := fits
  cases h with
  | calm _ k => exact ⟨by rw [k.inbox]; exact inbox, by rw [k.responses, k.hold]; exact responses⟩
  | arrival q room => exact ⟨by simp; omega, responses⟩
  | stopWaits => exact ⟨inbox, responses⟩
  | sent r rest h => exact ⟨inbox, by simp [h] at responses ⊢; omega⟩
  | served _ q rest head free room h =>
    have shorter : rest.length + 1 ≤ 4 := by simpa [head] using inbox
    refine ⟨by rw [h.inbox]; simp; omega, ?_⟩
    obtain ⟨hr, hh⟩ | ⟨hr, hh, -⟩ := h.outcome
    · simp [hr, hh, free, bit]; omega
    · simp [hr, hh, bit]; omega
  | burst =>
    have r := releases_burstStep s
    refine ⟨by rw [r.inbox]; exact inbox, ?_⟩
    obtain ⟨hr, hh⟩ | ⟨hr, held, hh⟩ := r.outcome
    · rw [hr, hh]; exact responses
    · simp [held, bit] at responses; simp [hr, hh, bit]; omega
  | deviceReset a tin => exact ⟨Nat.zero_le 4, Nat.zero_le 4⟩

/-- Settles O53: every entry of a queue is made where there is room for it, and a request that waits keeps its place. -/
theorem stepKeepsQueueBounds : Obligations.StepKeepsQueueBounds := by
  intro s t ⟨intake, forward, inbox, responses, records, others, firings⟩ h
  have fits : t.Fits := step_keeps effect_fits ⟨intake, forward, records, others, firings⟩ h
  have agent : t.agent.Fits := step_keeps_of_turns turn_agentFits (P := fun x => x.agent.Fits) ⟨inbox, responses⟩ h
  exact ⟨fits.intake, fits.forward, agent.inbox, agent.responses, fits.records, fits.others, fits.firings⟩

/-! What waits, waits on a burst. -/

theorem State.KeepsWaiting.waitsOnBurst (k : s.KeepsWaiting t) (h : s.WaitsOnBurst) : t.WaitsOnBurst where
  stop on := k.burst (h.stop (k.stop on))
  hold q hq :=
    let ⟨b, w⟩ := h.hold q (k.hold ▸ hq)
    ⟨k.burst b, w⟩

/-- A request that waits is of a kind that a rule lets wait, and one that waits for a swap waits on a burst in progress. -/
def State.Claims (s : State) : Prop :=
  ∀ q, s.agent.hold = some q → q.Waits ∧ (s.burst.isSome = true ∨ q.kind? ≠ some 0x06#8)

theorem claims_burstWork (h : s.WaitsOnBurst) : s.burstWork.Claims := by
  obtain k | ⟨u, k, hu⟩ := burstWork_cases s
  · intro q hq
    obtain ⟨b, w⟩ := (k.waitsOnBurst h).hold q hq
    exact ⟨w, .inl b⟩
  · rw [hu]
    obtain ⟨e, hk⟩ | ⟨q, hq, a⟩ := finishHeld_cases u
    · rw [e]; exact fun q hq => ⟨(h.hold q (k.hold ▸ hq)).2, .inr (hk q hq)⟩
    · intro r hr; rw [a.hold] at hr; cases hr

/-- Of the kinds that a rule lets wait, the swap alone has no claim. -/
theorem claimOf_ne_none {k : Byte}
    (h : k ∈ [0x06#8, 0x08#8, 0x09#8, 0x0A#8, 0x0B#8, 0x0C#8, 0x0D#8, 0x0F#8]) (hk : k ≠ 0x06#8) : claimOf k ≠ none := by
  simp only [List.mem_cons, List.not_mem_nil, or_false, hk, false_or] at h
  obtain rfl | rfl | rfl | rfl | rfl | rfl | rfl := h <;> simp [claimOf]

theorem kind_of_no_claim (hw : q.Waits) (h : q.kind?.bind claimOf = none) : q.kind? = some 0x06#8 := by
  obtain ⟨k, hk, hq⟩ := hw
  by_contra swap
  refine claimOf_ne_none hk (fun e => swap (by rw [hq, e])) ?_
  simpa [hq] using h

theorem waits_takeHeld (c : s.Claims) (hq : s.takeHeld.agent.hold = some q) :
    s.takeHeld.burst.isSome = true ∧ q.Waits := by
  obtain ⟨e, hk⟩ | ⟨r, hr, a⟩ := takeHeld_cases s
  · rw [e] at hq ⊢
    obtain ⟨w, b⟩ := c q hq
    exact ⟨b.resolve_right fun ne => ne (kind_of_no_claim w (hk q hq)), w⟩
  · rw [a.hold] at hq; cases hq

theorem State.KeepsWaiting.claims (k : s.KeepsWaiting t) (c : s.Claims) : t.Claims := fun q hq =>
  let ⟨w, b⟩ := c q (k.hold ▸ hq)
  ⟨w, b.imp_left k.burst⟩

theorem waitsOnBurst_serveClaims (c : s.Claims) : s.serveClaims.WaitsOnBurst := by
  have taken (v : State) (hv : v.Claims) (off : v.agent.stopClaim = false) : v.takeHeld.WaitsOnBurst :=
    ⟨fun on => (by rw [(releases_takeHeld v).stop on] at off; cases off), fun _ => waits_takeHeld hv⟩
  unfold State.serveClaims
  split
  · rename_i mid
    have b := State.midFiring_burst mid
    exact ⟨fun _ => b, fun q hq => ⟨b, (c q hq).1⟩⟩
  · have stopped := (takeStopClaim_keepsWaiting s).claims c
    have off := stopClaim_takeStopClaim s
    split
    · unfold State.withStopClaim
      split
      · exact (State.KeepsWaiting.of_eq (by simp) (by simp)).waitsOnBurst (taken _ stopped off)
      · refine State.KeepsWaiting.waitsOnBurst (s := s.takeHeld.takeStopClaim) (.of_eq (by simp) (by simp)) ?_
        have k := takeStopClaim_keepsWaiting s.takeHeld
        refine ⟨fun on => (by rw [stopClaim_takeStopClaim] at on; cases on), fun q hq => ?_⟩
        obtain ⟨b, w⟩ := waits_takeHeld c (k.hold ▸ hq)
        exact ⟨k.burst b, w⟩
    · exact taken _ stopped off

theorem turn_waitsOnBurst (s t : State) (turn : Turn s t) (h : s.WaitsOnBurst) : t.WaitsOnBurst := by
  cases turn with
  | calm _ k => exact k.waitsOnBurst h
  | arrival q room => exact ⟨h.stop, h.hold⟩
  | stopWaits mid => exact ⟨fun _ => State.midFiring_burst mid, h.hold⟩
  | sent => exact ⟨h.stop, h.hold⟩
  | served _ q rest head free room served =>
    refine ⟨fun on => ?_, fun r hr => ?_⟩
    · obtain ⟨was, kept⟩ := served.stop on
      exact kept (h.stop was)
    · obtain ⟨-, hh⟩ | ⟨-, hh, b, w⟩ := served.outcome
      · have : s.agent.hold = some r := hh ▸ hr
        simp [free] at this
      · obtain rfl : q = r := by simpa [hh] using hr
        exact ⟨b, w⟩
  | burst => exact waitsOnBurst_serveClaims (claims_burstWork h)
  | deviceReset a tin => exact ⟨fun on => (by cases on), fun r hr => (by cases hr)⟩

/-- Settles O59: a request is made to wait only where a burst is in progress, and the burst's end and the gaps between its
firings take what waits. -/
theorem stepKeepsWaitsOnABurst : Obligations.StepKeepsWaitsOnABurst := fun _ _ h st =>
  step_keeps_of_turns turn_waitsOnBurst h st

end Sys2Proof.Machine
end

section
/-! SUPPORT. The statements about the step itself and about a device reset. -/

namespace Sys2Proof.Machine

/-- Settles O1: a step with a command in the queue is that command's execution. -/
theorem stepRunsTheFrontCommand : Obligations.StepRunsTheFrontCommand := by
  intro s c rest h
  simp [step, h]

theorem reset_faults (k : Fin 6) : State.reset.faults.get k = ⟨false, 0⟩ := Tab.get_replicate _ k

theorem reset_counter (c : Counter) : State.reset.counter c = 0 := Tab.get_replicate _ c.code

theorem reset_outputs (j : Fin 8) : State.reset.outputs.get j = ⟨false, 0⟩ := Tab.get_replicate _ j

theorem reset_inputs (k : Fin 4) : State.reset.inputs.get k = {} := Tab.get_replicate _ k

theorem reset_watches (i : Fin 64) : State.reset.watches.get i = {} := Tab.get_replicate _ i

theorem reset_trains (k : Fin 8) : State.reset.trains.get k = {} := Tab.get_replicate _ k

theorem reset_timers (k : Fin 4) : State.reset.timers.get k = {} := Tab.get_replicate _ k

theorem reset_patches (i : Fin 16) : State.reset.patches.get i = {} := Tab.get_replicate _ i

theorem reset_owner (j : Fin 8) : (State.reset.banks.active.outputs.get j).owner = none :=
  congrArg OutputEntry.owner (Tab.get_replicate ({} : OutputEntry) j)

theorem reset_activeLow (j : Fin 8) : (State.reset.banks.active.outputs.get j).activeLow = false :=
  congrArg OutputEntry.activeLow (Tab.get_replicate ({} : OutputEntry) j)

theorem reset_outputPin (j : Fin 8) : State.reset.outputPin j = false := by
  simp [State.outputPin, State.outputActive, reset_owner, reset_activeLow, reset_outputs]

theorem reset_faultn : State.reset.faultn = true := by
  simp [State.faultn, State.flag, reset_faults]

/-- Settles O3: the fields by their definition, the tables entry by entry. -/
theorem resetStateHoldsTheResetValues : Obligations.ResetStateHoldsTheResetValues :=
  ⟨rfl, rfl, rfl, rfl, rfl, rfl, rfl, rfl, rfl, rfl, rfl, rfl, rfl, rfl, rfl, rfl, rfl, rfl, rfl, rfl, rfl, rfl, rfl, rfl, rfl,
    rfl, rfl, reset_faults, reset_counter, reset_faultn, fun j => ⟨reset_outputs j, reset_outputPin j⟩,
    fun k => by simp [reset_inputs]⟩

/-- Settles O4: the state after the reset is the reset state but for the pins, the queue and what the ring has seen. -/
theorem deviceResetStartsThePartAnew : Obligations.DeviceResetStartsThePartAnew := by
  intro s a tin
  refine ⟨s.afterReset a tin, rfl, rfl, fun k => Tab.get_ofFn _ k, ?_⟩
  exact ⟨rfl, rfl, rfl, rfl, rfl, rfl, rfl, rfl, rfl, rfl, rfl, rfl, rfl, rfl, rfl, rfl, rfl, rfl, rfl⟩

/-- Settles O60: after a reset nothing waits, runs, is armed or is known. -/
theorem resetStateHasTheInvariants : Obligations.ResetStateHasTheInvariants := by
  refine ⟨?bounded, ?quiet, ?tracked, ?inputs, ?reporter, ?saturated, ?waits⟩
  case bounded =>
    exact ⟨Nat.zero_le _, Nat.zero_le _, Nat.zero_le _, Nat.zero_le _, Nat.zero_le _, Nat.zero_le _, fun b h => by cases h⟩
  case quiet =>
    exact ⟨fun _ k => by rw [reset_trains], fun _ k => by rw [reset_timers], fun _ i => by rw [reset_patches],
      fun _ b h => (by cases h), fun h => by cases h⟩
  case tracked =>
    exact ⟨fun i h => absurd (by rw [reset_watches]) h, fun k h => absurd (by rw [reset_trains]) h⟩
  case inputs => exact fun k => by simp [reset_inputs]
  case reporter => exact ⟨fun _ d h => (by cases h), fun _ => rfl, Nat.zero_le _⟩
  case saturated => exact ⟨fun c => by simp [reset_counter], fun k => by simp [reset_faults]⟩
  case waits => exact ⟨fun h => (by cases h), fun q h => by cases h⟩

end Sys2Proof.Machine
end

section
/-! SUPPORT. The statements about what an action does. -/

namespace Sys2Proof.Machine

variable {s : State} {e : ActionEntry} {t : Fin 48}

theorem runAction_of_refused {i : Fin 256} (h : act t (s.banks.active.actions.get i) s = none) :
    s.runAction t i = s.bump .actionRefused := by
  have found : s.banks.active.actions.get? i = some (s.banks.active.actions.get i) := by simp [Tab.get?, Tab.get]
  simp [State.runAction, found, h]

theorem currentOf_val (s : State) (c : Fin 32) : s.currentOf c = (s.channels.get c).current := by simp [State.currentOf]

/-- Settles O31: each of the four answers nothing without a current sample of its channel. -/
theorem refusedActionsOnlyCount : Obligations.RefusedActionsOnlyCount := by
  refine fun s t => ⟨fun i => runAction_of_refused, fun e c hc => ⟨?patch, ?threshold, ?rebase, ?trainStart⟩⟩
  case patch =>
    intro hk hm ha
    simp [act, hk, actPatch, hm, State.argumentOf, ha, currentOf_val, hc]
  case threshold =>
    intro hk hm ha
    have value (w : WatchRt) : s.thresholdValue e w = none := by
      obtain hm | hm := hm <;> simp [State.thresholdValue, hm, State.argumentOf, ha, currentOf_val, hc]
    simp only [act, hk, actThreshold, value]
    split <;> rfl
  case rebase =>
    intro hk ht
    simp [act, hk, actRebase, ht, hc]
  case trainStart =>
    intro k hk ht hch
    simp [act, hk, actTrainStart, ht, hch, hc]

/-! Lines and patches. -/

theorem act_patch {i : Fin 16} {x : Ext} (hk : e.kind = .patch) (ht : e.target = i)
    (hv : s.argumentOf e (e.mode == 1) = some x) :
    act t e s = some
      (let hold := (s.banks.active.patches.get i).hold
      let s1 := s.withPatches (s.patches.set i ((s.patches.get i).arm hold (x.truncate 32)))
      if (s.patches.get i).armed && !hold then s1.bump .patchOverrun else s1) := by
  simp [act, hk, actPatch, ht, hv]

/-- Settles O32: what each of the four does, read off its definition. -/
theorem lineAndPatchActions : Obligations.LineAndPatchActions := by
  refine fun s t e => ⟨?pulse, ?level, ?patch, ?unpatch⟩
  case pulse => intro j hk ht; simp [act, hk, actPulse, ht, OutputRt.startPulse]
  case level =>
    intro j hk ht
    refine ⟨((s.outputs.get j).setLevel e.mode).active, ?_, fun h => ?_, fun h => ?_, fun h => ?_⟩
    · simp [act, hk, actLevel, ht, Tab.modify, OutputRt.setLevel]
    all_goals simp [OutputRt.setLevel, h]
  case patch =>
    intro i v hk ht hv
    obtain ⟨x, hx, rfl⟩ : ∃ x, s.argumentOf e (e.mode == 1) = some x ∧ v = x.truncate 32 := by
      obtain ⟨hm, rfl⟩ | ⟨hm, c, m, ha, hc, rfl⟩ := hv
      · exact ⟨_, by simp [State.argumentOf, hm], rfl⟩
      · exact ⟨_, by simp [State.argumentOf, hm, ha, currentOf_val, hc], rfl⟩
    refine ⟨_, act_patch hk ht hx, ?_⟩
    dsimp only
    cases hover : (s.patches.get i).armed && !(s.banks.active.patches.get i).hold with
    | false =>
      have off : ¬ ((s.patches.get i).armed = true ∧ (s.banks.active.patches.get i).hold = false) := by simpa using hover
      simp only [off, if_false, Bool.false_eq_true]
      exact ⟨by simp [PatchRt.arm, hover], fun j hj => by simp [Tab.get_set_ne _ _ (Ne.symm hj)], rfl, fun _ _ => rfl, rfl⟩
    | true =>
      have on : (s.patches.get i).armed = true ∧ (s.banks.active.patches.get i).hold = false := by simpa using hover
      simp only [on, if_true, and_self]
      refine ⟨by simp [PatchRt.arm, on], fun j hj => by simp [Tab.get_set_ne _ _ (Ne.symm hj)], counter_bump_self _ _,
        fun c hc => counter_bump_ne _ (Ne.symm hc), rfl⟩
  case unpatch => intro i hk ht; simp [act, hk, actUnpatch, ht, Tab.modify]

/-! Units. -/

theorem act_trainStart {k : Fin 8} {m : Sample} (hk : e.kind = .trainStart) (ht : e.target = k)
    (hm : (s.channels.get (s.banks.active.trains.get k).channel).current = some m) :
    act t e s = some ((s.withTrains (s.trains.modify k
      (TrainRt.start (s.banks.active.trains.get k) m.extended))).derive (.trainStart k)) := by
  simp [act, hk, actTrainStart, ht, hm]

theorem act_trainStop {k : Fin 8} (hk : e.kind = .trainStop) (ht : e.target = k) :
    act t e s = some (let u := s.withTrains (s.trains.set k (s.trains.get k).stop)
      if (s.trains.get k).stopEnds then u.derive (.trainEnd k) else u) := by
  simp [act, hk, actTrainStop, ht, Tab.modify]

/-- An entry set to what it is leaves its table. -/
theorem set_get_self {α : Type} {n : Nat} (x : Tab α n) (i : Fin n) : x.set i (x.get i) = x := by
  refine Tab.ext_get fun j => ?_
  rw [Tab.get_set]
  split
  · rename_i h; rw [Fin.ext h]
  · rfl

theorem act_arm {i : Fin 48} {armed : Bool} (hk : e.kind = if armed then .enable else .disable) (ht : e.target = i) :
    act t e s = some (s.withTriggers (s.triggers.set i { s.triggers.get i with armed := armed })) := by
  cases armed <;> simp_all [act, actArm, Tab.modify]

theorem act_rebase {c : Fin 32} {m : Sample} (hk : e.kind = .rebase) (ht : e.target = c)
    (hm : (s.channels.get c).current = some m) :
    act t e s = some (((s.withChannels (s.channels.modify c (ChannelRt.rebase e.argument))).shiftTrains c
      (e.argument - m.extended)).primeWatches c) := by
  simp [act, hk, actRebase, ht, hm]

theorem ChannelRt.value_of_current {x : ChannelRt} {m : Sample} (h : x.current = some m) :
    x.value = .seen .fresh m ∨ x.value = .seen .held m := by
  unfold ChannelRt.current at h
  split at h <;> simp_all

theorem ChannelRt.rebase_of_current {x : ChannelRt} {m : Sample} (v : Ext) (h : x.current = some m) :
    (x.rebase v).current = some { m with extended := v } ∧ (x.rebase v).misses = x.misses
      ∧ (x.rebase v).updated = x.updated
      ∧ ((x.rebase v).value = .seen .fresh { m with extended := v } ↔ x.value = .seen .fresh m) := by
  obtain h | h := value_of_current h <;> simp [ChannelRt.rebase, ChannelRt.current, h]

/-- To evaluate a watch whose truth is forgotten is to prime it (R48, R55). -/
theorem WatchRt.evaluate_forgotten (e : WatchEntry) (m : Sample) (w : WatchRt) :
    WatchRt.evaluate e m { w with truth := .unknown } = w.prime e m := by
  simp [WatchRt.evaluate, WatchRt.prime, becomesTrue]

theorem TrainRt.shift_of_live {r : TrainRt} (d : Ext) (h : r.state ≠ .idle) :
    r.shift d = { r with run := r.run.map fun r => { r with origin := r.origin + d } } := by
  simp [TrainRt.shift, TrainRt.live, h]

theorem TrainRt.shift_of_idle {r : TrainRt} (d : Ext) (h : r.state = .idle) : r.shift d = r := by
  simp [TrainRt.shift, TrainRt.live, h]

/-- Settles O33: what each action does to its unit, and for REBASE what its channel's trains and watches make of it. -/
theorem unitActions : Obligations.UnitActions := by
  refine fun s t e => ⟨?start, ?stop, ?timer, fun i hk ht => act_arm (armed := true) hk ht,
    fun i hk ht => act_arm (armed := false) hk ht, ?rebase⟩
  case start => intro k m hk ht hm; rw [act_trainStart hk ht hm]; rfl
  case stop =>
    intro k hk ht
    rw [act_trainStop hk ht]
    refine ⟨fun hr ho => ?_, fun hr ho => ?_, fun hr => ?_⟩
    · simp [TrainRt.stopEnds, TrainRt.stop, TrainRt.halt, hr, ho]
    · simp [TrainRt.stopEnds, TrainRt.stop, hr, ho]
    · have stays : (s.trains.get k).stop = s.trains.get k := by
        unfold TrainRt.stop
        split <;> simp_all
      simp only [TrainRt.stopEnds, hr, decide_false, Bool.false_and, Bool.false_eq_true, if_false, stays]
      rw [set_get_self]
      rfl
  case timer => intro k hk ht; exact act_timerStart t hk ht
  case rebase =>
    intro c m hk ht hm
    obtain ⟨current, misses, updated, fresh⟩ := ChannelRt.rebase_of_current e.argument hm
    refine ⟨_, act_rebase hk ht hm, ?_, fun i hi => ?_, ?_, ?_, ?_, fun w => ⟨fun hv hc hw => ?_, fun h => ?_⟩,
      fun k => ⟨fun hc hr => ?_, fun h => ?_⟩, rfl⟩
    · simpa [State.primeWatches, State.shiftTrains] using current
    · simp [State.primeWatches, State.shiftTrains, Tab.get_modify, Ne.symm hi]
    · simpa [State.primeWatches, State.shiftTrains] using misses
    · simpa [State.primeWatches, State.shiftTrains] using updated
    · simpa [State.primeWatches, State.shiftTrains] using fresh
    · simp [State.primeWatches, State.shiftTrains, current, hv, hc, hw, WatchRt.evaluate_forgotten]
    · obtain h | h | h := h <;> simp [State.primeWatches, State.shiftTrains, current, h]
    · simp [State.primeWatches, State.shiftTrains, hc, TrainRt.shift_of_live _ hr]
    · obtain h | h := h <;> simp [State.primeWatches, State.shiftTrains, h, TrainRt.shift_of_idle]

/-! Thresholds. -/

theorem act_threshold {i : Fin 64} {v : Ext} (hk : e.kind = .threshold) (ht : e.target = i)
    (hv : s.thresholdValue e (s.watches.get i) = some v) :
    act t e s = (let w := (s.watches.get i).load (3 ≤ e.mode) v
      if w.windowOk (s.banks.active.watches.get i) then some (s.reevaluate i w) else none) := by
  simp [act, hk, actThreshold, ht, hv]

theorem windowOk_eq_false_iff (e : WatchEntry) (w : WatchRt) : w.windowOk e = false ↔
    e.test = .inside ∧ w.b.toInt < w.a.toInt
      ∨ e.test = .outside ∧ (w.b.toInt < w.a.toInt ∨ w.b.toInt - w.a.toInt < 2 * (e.hysteresis : Int)) := by
  unfold WatchRt.windowOk
  cases h : e.test <;> simp
  omega

/-- Settles O34: the load by the window that it leaves, and the evaluation by what is known of the watch. -/
theorem thresholdLoadsAndEvaluates : Obligations.ThresholdLoadsAndEvaluates := by
  intro s t e i v hk ht
  dsimp only
  intro hv
  have value : s.thresholdValue e (s.watches.get i) = some v := by
    obtain ⟨hm | hm, rfl⟩ | ⟨hm, rfl⟩ | ⟨hm, rfl⟩ | ⟨hm | hm, c, m, ha, hc, rfl⟩ := hv <;>
      simp [State.thresholdValue, State.argumentOf, *, currentOf_val]
  have loaded : (s.watches.get i).load (3 ≤ e.mode) v
      = if 3 ≤ e.mode then { s.watches.get i with b := v } else { s.watches.get i with a := v } := by
    simp [WatchRt.load]
  rw [act_threshold hk ht value]
  dsimp only
  rw [loaded]
  generalize hw : (if 3 ≤ e.mode then { s.watches.get i with b := v } else { s.watches.get i with a := v } : WatchRt) = w
  have truth : w.truth = (s.watches.get i).truth := by rw [← hw]; split <;> rfl
  rw [← windowOk_eq_false_iff, ← truth]
  refine ⟨fun wrong => by simp [wrong], fun right unknown => ?_, fun m right known hm => ⟨fun h => ?_, fun rise h => ?_⟩⟩
  all_goals
    have ok : w.windowOk (s.banks.active.watches.get i) = true := by simpa using right
    rw [if_pos ok]
    unfold State.reevaluate
  · simp [unknown]
  · cases hs : w.truth <;> simp_all
  · cases hs : w.truth <;> simp_all

end Sys2Proof.Machine
end

section
/-! SUPPORT. The statements about the firings of a burst. -/

namespace Sys2Proof.Machine

variable {s : State} {b : Burst} {f : Firing}

/-- A step of the burst with a firing in hand. -/
theorem burstWork_firing (hb : s.burst = some b) (hf : b.firing = some f) :
    s.burstWork = settle s (s.stepFiring b f) := by
  simp [State.burstWork, hb, hf]

/-- A step of the burst between two firings. -/
theorem burstWork_entry {e : Entry} {rest : List Entry} (hb : s.burst = some b) (hf : b.firing = none)
    (hp : b.pending = e :: rest) : s.burstWork = s.takeEntry b e rest := by
  simp [State.burstWork, hb, hf, hp]

/-- A FIRE record finds room below 92 records (R121). -/
theorem offerRecord_fire (h : s.report.records.length < 92) (st : Stamp) (i : Fin 48) (k : SourceKind) (n : Nat)
    (l : Option (Fin 48)) :
    s.offerRecord st (.fire i k n l) = s.withReport (s.report.append st (.fire i k n l)) :=
  offerRecord_room _ _ (by simpa [Report.hasRoom] using h)

/-- A completed firing in RUNNING: the trigger's bookkeeping, and its FIRE record when its entry asks for one (R12, R13). -/
theorem settle_completeFiring (running : s.engine = .running) (c : Burst) (i : Fin 48) (e : Entry) (ledBy : Option (Fin 48)) :
    let r := s.triggers.get i
    let done := (s.withBurst (some c)).withTriggers (s.triggers.set i
      ⟨r.armed && !(s.banks.active.triggers.get i).once, satInc 4294967295 r.fires, some c.stamp, r.merged⟩)
    let t := settle s ((s.withBurst (some c)).completeFiring i e ledBy)
    ((s.banks.active.triggers.get i).report = false → t = done)
    ∧ ((s.banks.active.triggers.get i).report = true → s.report.records.length < 92 →
        t = done.withReport (s.report.append c.stamp (.fire i e.kind e.index ledBy))) := by
  intro r done t
  have completed : (s.withBurst (some c)).completeFiring i e ledBy = if (s.banks.active.triggers.get i).report
      then done.offerRecord c.stamp (.fire i e.kind e.index ledBy) else done := rfl
  refine ⟨fun h => ?_, fun h room => ?_⟩
  · have : t = settle s done := by simp only [t, completed, h, Bool.false_eq_true, if_false]
    rw [this, settle_of_running s done running]
  · have : t = settle s (done.offerRecord c.stamp (.fire i e.kind e.index ledBy)) := by simp only [t, completed, h, if_true]
    rw [this, offerRecord_fire (s := done) room]
    exact settle_of_running s (done.withReport _) running

/-- Settles O22: the entry by the fired set and the trigger's state, the completion by its bookkeeping. -/
theorem firingsBeginMergeAndComplete : Obligations.FiringsBeginMergeAndComplete := by
  refine fun s b hb running => ⟨fun e rest hf hp => ?entry, fun f hf hl hm hj => ?completion⟩
  case entry =>
    rw [burstWork_entry hb hf hp]
    unfold State.takeEntry
    refine ⟨fun h => by rw [if_pos h]; rfl, fun h ha => ?_, fun h ha => ?_⟩
    · rw [if_neg (ne_true_of_eq_false h), if_neg (by simp [ha])]; rfl
    · rw [if_neg (ne_true_of_eq_false h), if_pos ⟨running, ha⟩]; rfl
  case completion =>
    have step : s.burstWork
        = settle s ((s.withBurst (some { b with firing := none })).completeFiring f.leader.trigger f.leader none) := by
      rw [burstWork_firing hb hf]
      simp [State.stepFiring, hl, hm, hj, State.putBurst]
    rw [step]
    exact settle_completeFiring running _ _ _ _

/-- Settles O23: the step of a firing by what is left of its list, of its joins and of its member's list. -/
theorem firingsRunActionsAndJoins : Obligations.FiringsRunActionsAndJoins := by
  refine fun s b f hb hf running =>
    ⟨fun n hl => ?action, fun m rest hl hm hj => ?join, fun m hl hm => ?member⟩
  case action =>
    have step : s.burstWork = settle s ((s.withBurst (some { b with
        firing := some { f with next := f.next + 1, left := n } })).runAction f.actor f.next) := by
      rw [burstWork_firing hb hf]
      simp only [State.stepFiring, hl]
      rfl
    rw [step]
    simp only [Firing.actor, settle, running, true_and, ne_eq, ite_not]
    cases f.member <;> rfl
  case join =>
    have step : s.burstWork = settle s (s.examineMember b f m rest) := by
      rw [burstWork_firing hb hf]
      simp [State.stepFiring, hl, hm, hj]
    have settled : s.burstWork = s.examineMember b f m rest := by
      rw [step]
      exact settle_of_running _ _ (by simpa using running)
    dsimp only
    rw [settled]
    unfold State.examineMember
    refine ⟨fun h => by rw [if_pos h]; rfl, fun h ha => ?_, fun h ha => ?_⟩
    · rw [if_neg (ne_true_of_eq_false h), if_neg (ne_true_of_eq_false ha)]; rfl
    · rw [if_neg (ne_true_of_eq_false h), if_pos ha]; rfl
  case member =>
    have step : s.burstWork = settle s
        ((s.withBurst (some { b with firing := some { f with member := none } })).completeFiring m f.leader
          (some f.leader.trigger)) := by
      rw [burstWork_firing hb hf]
      simp [State.stepFiring, hl, hm, State.putBurst]
    rw [step]
    exact settle_completeFiring running _ _ _ _

end Sys2Proof.Machine
end

section
/-! SUPPORT. The statements about records and faults. -/

namespace Sys2Proof.Machine

variable {s : State} {st : Stamp} {b : RecordBody} {k : Fin 6}

/-- The room that a record of this body finds (R121). -/
theorem hasRoom_iff (r : Report) (b : RecordBody) :
    r.hasRoom b = true ↔ r.records.length < 92 ∨ b.code = 4 ∧ r.records.length < 96 := by
  cases b <;> simp [Report.hasRoom, RecordBody.code, Config.recordSize, Config.recordRoom]
  omega

theorem hasRoom_fault (r : Report) (k : Fin 6) (d : Nat) : r.hasRoom (.fault k d) = decide (r.records.length < 96) := rfl

theorem offerRecord_lost (h : ¬ s.report.hasRoom b = true) (st : Stamp) : s.offerRecord st b = s.lose b := by
  simp [State.offerRecord, h]

@[simp] theorem faults_countLoss (s : State) : s.countLoss.faults = s.faults := rfl

@[simp] theorem counter_countLoss (s : State) : s.countLoss.counter .reportLost = satInc 4294967295 (s.counter .reportLost) :=
  counter_bump_self s .reportLost

@[simp] theorem report_countLoss (s : State) : s.countLoss.report = { s.report with gap := satInc 65535 s.report.gap } := rfl

theorem lose_of_flag (h : s.flag reportLoss = true) (b : RecordBody) : s.lose b = s.countLoss := by
  have : s.countLoss.flag reportLoss = true := h
  simp [State.lose, this]

theorem lose_of_clear (h : s.flag reportLoss = false) (b : RecordBody) : s.lose b = s.countLoss.offerLoss b.code := by
  have : s.countLoss.flag reportLoss = false := h
  simp [State.lose, this]

theorem engine_disarmFor (s : State) (k : Fin 6) :
    (s.disarmFor k).engine = if s.engine = .running ∧ s.inDisarmSet k = true then .disarmed else s.engine := by
  unfold State.disarmFor
  split <;> rfl

theorem faults_setFault (s : State) (k j : Fin 6) : (s.setFault k).faults.get j
    = if k = j then ⟨true, satInc 65535 (s.faults.get j).raises⟩ else s.faults.get j := Tab.get_modify _ _ _ _

@[simp] theorem faults_offerLoss (s : State) (d : Nat) : (s.offerLoss d).faults = (s.setFault reportLoss).faults := by
  unfold State.offerLoss
  dsimp only
  split <;> simp

theorem engine_offerLoss (s : State) (d : Nat) : (s.offerLoss d).engine
    = if s.engine = .running ∧ s.inDisarmSet reportLoss = true then .disarmed else s.engine := by
  unfold State.offerLoss
  dsimp only
  rw [engine_disarmFor]
  split <;> rfl

/-- The record of the first loss, where it finds room (R122). -/
theorem offerLoss_room (h : s.report.records.length < 96) (d : Nat) :
    (s.offerLoss d).report = s.report.append s.stampNow (.fault reportLoss d)
    ∧ (s.offerLoss d).counter .reportLost = s.counter .reportLost := by
  have room : (s.setFault reportLoss).report.hasRoom (.fault reportLoss d) = true := by simpa [hasRoom_fault] using h
  unfold State.offerLoss
  dsimp only
  rw [if_pos room]
  exact ⟨by simp; rfl, by simp [State.counter]⟩

/-- The record of the first loss, lost in turn (R122). -/
theorem offerLoss_full (h : 96 ≤ s.report.records.length) (d : Nat) :
    (s.offerLoss d).report = { s.report with gap := satInc 65535 s.report.gap }
    ∧ (s.offerLoss d).counter .reportLost = satInc 4294967295 (s.counter .reportLost) := by
  have full : ¬ (s.setFault reportLoss).report.hasRoom (.fault reportLoss d) = true := by simpa [hasRoom_fault] using h
  unfold State.offerLoss
  dsimp only
  rw [if_neg full]
  refine ⟨by simp, ?_⟩
  have counted := counter_countLoss (s.setFault reportLoss)
  simpa [State.counter] using counted

/-- Settles O37: a record is admitted where there is room, else lost, and the first loss is a fault of its own. -/
theorem recordsAreAdmittedOrLost : Obligations.RecordsAreAdmittedOrLost := by
  intro s st b
  dsimp only
  rw [← hasRoom_iff]
  refine ⟨fun room => by rw [offerRecord_room st b room]; rfl, fun full flag => ?_, fun full clear => ?_⟩
  · rw [offerRecord_lost full, lose_of_flag flag]; rfl
  · have loss : s.offerRecord st b = s.countLoss.offerLoss b.code := by rw [offerRecord_lost full, lose_of_clear clear]
    have faults (k : Fin 6) : (s.offerRecord st b).faults.get k
        = if reportLoss = k then ⟨true, satInc 65535 (s.faults.get k).raises⟩ else s.faults.get k := by
      rw [loss, faults_offerLoss, faults_setFault]; rfl
    have engine : (s.offerRecord st b).engine
        = if s.engine = .running ∧ s.inDisarmSet reportLoss = true then .disarmed else s.engine := by
      rw [loss, engine_offerLoss]; rfl
    refine ⟨by simp [State.flag, faults], by simp [faults], fun k hk => by simp [faults, Ne.symm hk], fun room => ?_,
      fun many => ?_, fun running disarm => by simp [engine, running, disarm], fun calm => ?_⟩
    · obtain ⟨report, counter⟩ := offerLoss_room (s := s.countLoss) room b.code
      rw [loss, report, counter, counter_countLoss]
      refine ⟨rfl, ?_⟩
      have owed : satInc 65535 s.report.gap ≠ 0 := by unfold satInc; omega
      simp [Report.append, owed]
      rfl
    · obtain ⟨report, counter⟩ := offerLoss_full (s := s.countLoss) many b.code
      rw [loss, report, counter, counter_countLoss]
      exact ⟨rfl, rfl⟩
    · rw [engine, if_neg]
      rintro ⟨running, disarm⟩
      obtain h | h := calm
      · exact h running
      · rw [h] at disarm; cases disarm

/-! Raising a fault kind. -/

/-- An offered record touches no flag or raise count but those of REPORT_LOSS. -/
theorem faults_offerRecord (hk : k ≠ reportLoss) (s : State) (st : Stamp) (b : RecordBody) :
    (s.offerRecord st b).faults.get k = s.faults.get k := by
  by_cases room : s.report.hasRoom b = true
  · rw [offerRecord_room st b room]; rfl
  · rw [offerRecord_lost room]
    cases flag : s.flag reportLoss with
    | true => rw [lose_of_flag flag]; rfl
    | false => rw [lose_of_clear flag, faults_offerLoss, faults_setFault, if_neg (Ne.symm hk)]; rfl

/-- An offered record takes the engine nowhere but out of RUNNING into DISARMED. -/
theorem engine_offerRecord (s : State) (st : Stamp) (b : RecordBody) :
    (s.offerRecord st b).engine = s.engine ∨ s.engine = .running ∧ (s.offerRecord st b).engine = .disarmed := by
  by_cases room : s.report.hasRoom b = true
  · rw [offerRecord_room st b room]; exact .inl rfl
  · rw [offerRecord_lost room]
    cases flag : s.flag reportLoss with
    | true => rw [lose_of_flag flag]; exact .inl rfl
    | false =>
      rw [lose_of_clear flag, engine_offerLoss]
      split
      · rename_i h; exact .inr ⟨h.1, rfl⟩
      · exact .inl rfl

@[simp] theorem faults_settle (s t : State) : (settle s t).faults = t.faults := by unfold settle; split <;> simp

@[simp] theorem report_settle (s t : State) : (settle s t).report = t.report := by unfold settle; split <;> simp

@[simp] theorem engine_settle (s t : State) : (settle s t).engine = t.engine := by unfold settle; split <;> simp

theorem faults_raiseFault (hk : k ≠ reportLoss) (s : State) (d : Nat) :
    (s.raiseFault k d).faults.get k = ⟨true, satInc 65535 (s.faults.get k).raises⟩ := by
  unfold State.raiseFault State.raiseRaw
  dsimp only
  rw [faults_settle, State.disarmFor_faults]
  split
  · simp [faults_setFault]
  · rw [faults_offerRecord hk, faults_setFault, if_pos rfl]

theorem engine_raiseRaw (s : State) (k : Fin 6) (d : Nat) (running : s.engine = .running) (disarm : s.inDisarmSet k = true) :
    (s.raiseRaw k d).engine = .disarmed := by
  unfold State.raiseRaw
  dsimp only
  rw [engine_disarmFor]
  have listed {x : State} (h : x.banks = s.banks) : x.inDisarmSet k = true := by
    unfold State.inDisarmSet; rw [h]; exact disarm
  split
  · rw [if_pos ⟨running, disarm⟩]
  · rw [listed (by simp)]
    obtain h | ⟨-, h⟩ := engine_offerRecord (s.setFault k) (s.setFault k).stampNow (.fault k d)
    · rw [if_pos ⟨h.trans running, rfl⟩]
    · rw [if_neg (by simp [h]), h]

theorem report_raiseFault_of_flag (h : s.flag k = true) (d : Nat) : (s.raiseFault k d).report = s.report := by
  simp [State.raiseFault, State.raiseRaw, h]

theorem report_raiseFault_of_clear (h : s.flag k = false) (d : Nat) :
    (s.raiseFault k d).report = ((s.setFault k).offerRecord s.stampNow (.fault k d)).report := by
  simp [State.raiseFault, State.raiseRaw, h]
  rfl

/-- What a raise that disarms leaves (R154). -/
theorem raiseFault_disarms (s : State) (k : Fin 6) (d : Nat) (running : s.engine = .running) (disarm : s.inDisarmSet k = true) :
    s.raiseFault k d = (s.raiseRaw k d).cleanup ∧ (s.raiseRaw k d).engine = .disarmed := by
  have left := engine_raiseRaw s k d running disarm
  exact ⟨by simp [State.raiseFault, settle, running, left], left⟩

theorem engine_raiseFault_of_not_running (h : s.engine ≠ .running) (k : Fin 6) (d : Nat) :
    (s.raiseFault k d).engine = s.engine := by
  rw [State.raiseFault, engine_settle, engine_raiseRaw_of_not_running h]

theorem flag_reportLoss_lose (s : State) (b : RecordBody) : (s.lose b).flag reportLoss = true := by
  cases flag : s.flag reportLoss with
  | true => rw [lose_of_flag flag]; exact flag
  | false => rw [lose_of_clear flag]; simp [State.flag, faults_setFault]

theorem flag_raiseFault_of_lost (h : s.flag k = false) (full : 96 ≤ s.report.records.length) (d : Nat) :
    (s.raiseFault k d).flag reportLoss = true := by
  have refused : ¬ (s.setFault k).report.hasRoom (.fault k d) = true := by simpa [hasRoom_fault] using full
  have lost := flag_reportLoss_lose (s.setFault k) (.fault k d)
  unfold State.raiseFault State.raiseRaw
  dsimp only
  rw [if_neg (by rw [h]; exact Bool.false_ne_true), offerRecord_lost refused]
  simpa [State.flag] using lost

theorem report_raiseFault_of_lost (h : s.flag k = false) (hk : k ≠ reportLoss) (full : 96 ≤ s.report.records.length) (d : Nat) :
    (s.raiseFault k d).report = { s.report with
      gap := if s.flag reportLoss then satInc 65535 s.report.gap else satInc 65535 (satInc 65535 s.report.gap) } := by
  have refused : ¬ (s.setFault k).report.hasRoom (.fault k d) = true := by simpa [hasRoom_fault] using full
  have other : (s.setFault k).flag reportLoss = s.flag reportLoss := by simp [State.flag, faults_setFault, hk]
  rw [report_raiseFault_of_clear h, offerRecord_lost refused]
  cases flag : s.flag reportLoss with
  | true => rw [lose_of_flag (other.trans flag)]; simp
  | false =>
    rw [lose_of_clear (other.trans flag), (offerLoss_full (s := (s.setFault k).countLoss) full _).1]
    simp

/-- Settles O38: the raise by its flag, its record by the room that it finds, the cleanup by Figure 10-2. -/
theorem faultRaiseSetsFlagAndDisarms : Obligations.FaultRaiseSetsFlagAndDisarms := by
  intro s k d hk
  have place := faults_raiseFault hk s d
  have flag : (s.raiseFault k d).flag k = true := by simp [State.flag, place]
  refine ⟨flag, by rw [place], ?_, fun h => report_raiseFault_of_flag h d, fun h room => ?_, fun h full => ?_,
    fun running disarm => ?_, fun h => engine_raiseFault_of_not_running h k d⟩
  · simp only [State.faultn, List.all_eq_false, List.mem_finRange, true_and]
    exact ⟨k, by simp [flag]⟩
  · have found : (s.setFault k).report.hasRoom (.fault k d) = true := by simpa [hasRoom_fault] using room
    rw [report_raiseFault_of_clear h, offerRecord_room _ _ found]
    rfl
  · exact ⟨flag_raiseFault_of_lost h full d, report_raiseFault_of_lost h hk full d⟩
  · obtain ⟨after, left⟩ := raiseFault_disarms s k d running disarm
    rw [after]
    refine ⟨by simp [left], fun j => by simp [TrainRt.halt], fun j => by simp [TimerRt.halt], fun j => by simp, fun j => ?_⟩
    simp [left]

end Sys2Proof.Machine
end

section
/-! SUPPORT. The statements about the requests that claim nothing: session, reads, tables, reports, faults and counters. Each row
is executed on the state with the request in hand; the lemmas `held_row` and `open_row` say so once. -/

namespace Sys2Proof.Machine

variable {s : State} {q : Request} {rest : List Request} {k : Byte} {run : Request → State → State}

/-- The state in which the holder's request is executed (R167). -/
abbrev State.inHand (s : State) (rest : List Request) : State :=
  s.withAgent { s.agent with inbox := rest, session := s.agent.session.map Session.restart }

/-- The state in which a request that needs no session is executed (R167). -/
abbrev State.inOpenHand (s : State) (rest : List Request) : State := s.withAgent { s.agent with inbox := rest }

theorem held_row (h : s.ReadyHeld q rest k) (hk : knownKind k = true) :
    serve (ofKind k.toNat) always run s = run q (s.inHand rest) :=
  serve_held h (ofKind_of_kind h.kind rfl) hk rfl

theorem open_row (h : s.Ready q rest k) (hk : knownKind k = true) :
    serve (ofKind k.toNat) never run s = run q (s.inOpenHand rest) :=
  serve_open h (ofKind_of_kind h.kind rfl) hk rfl

theorem bare_of_nil (h : q.body = []) (s : State) : bare run q s = run q s := by simp [bare, h]

/-- The answer to the holder's request that has changed nothing. -/
theorem answer_inHand (h : s.ReadyHeld q rest k) (hk : k ≠ 0x02#8) (status : Byte) (body : List Byte) :
    (s.inHand rest).answer q status body = s.withAgent (s.agent.servedHolder rest (s.responseTo q status body)) :=
  answer_held h hk (s.inHand rest) rfl rfl status body

/-- The answer to an open read. -/
theorem answer_inOpenHand (h : s.Ready q rest k) (hk : k ≠ 0x02#8) (status : Byte) (body : List Byte) :
    (s.inOpenHand rest).answer q status body = s.withAgent (s.agent.servedOpen q rest (s.responseTo q status body)) :=
  answer_open (isClose_of_kind h.kind hk) (s.inOpenHand rest) rfl rfl status body

/-! Session. -/

theorem isHolder_session {g : Agent} {h : Session} (hs : g.session = some h) : g.isHolder q = h.isOf q := by
  simp [Agent.isHolder, hs]

/-- Settles O39: the row by the session that stands. -/
theorem sessionOpenGrantsOrRefuses : Obligations.SessionOpenGrantsOrRefuses := by
  intro s q rest h hb
  have row : exec .sessionOpen s = .next (openSession q (s.inOpenHand rest)) := by
    rw [← bare_of_nil (run := openSession) hb]
    exact congrArg _ (open_row h (by decide))
  have kind : q.isClose = false := isClose_of_kind h.kind (by decide)
  dsimp only
  rw [row]
  refine ⟨fun hs => ?absent, fun hh => ?holder, fun x hs hx => ?other⟩
  case absent =>
    simp [openSession, hs, State.answer, Agent.isHolder, Session.isOf, kind, Agent.push, State.responseTo, State.headerByte]
  case holder =>
    cases hs : s.agent.session with
    | none => simp [Agent.isHolder, hs] at hh
    | some x =>
      have mine : x.isOf q = true := (isHolder_session hs).symm.trans hh
      simp only [openSession, State.agent_withAgent, hs, mine, if_true]
      exact congrArg _ (answer_held ⟨h, hh⟩ (by decide) _ (by simp [Agent.restartLease, hs]) (by rfl) _ _)
  case other =>
    simp only [openSession, State.agent_withAgent, hs, hx, Bool.false_eq_true, if_false]
    exact congrArg _ (answer_inOpenHand h (by decide) _ _)

/-- The answer to a SESSION_CLOSE is not cached (R170, R172). -/
theorem answer_close (h : q.isClose = true) (s : State) (status : Byte) (body : List Byte) :
    s.answer q status body = s.withAgent (s.agent.push (s.responseTo q status body)) := by
  simp [State.answer, h]

/-- Settles O40: the holder's close ends the session, another's is refused. -/
theorem sessionCloseEndsTheSession : Obligations.SessionCloseEndsTheSession := by
  intro s q rest h
  have close : q.isClose = true := by simp [Request.isClose, h.kind]
  refine ⟨fun hh hb => ?_, fun hh hb => ?_, fun hh => ?_⟩
  · have row : exec .sessionClose s = .next (closeSession q (s.inHand rest)) := by
      rw [← bare_of_nil (run := closeSession) hb]
      exact congrArg _ (held_row ⟨h, hh⟩ (by decide))
    rw [row, closeSession, answer_close close]
    rfl
  · have row : exec .sessionClose s = .next (bare closeSession q (s.inHand rest)) :=
      congrArg _ (held_row ⟨h, hh⟩ (by decide))
    rw [row, bare, if_neg hb, answer_close close]
    rfl
  · have row : exec .sessionClose s = .next ((s.inOpenHand rest).answer q stNoSession []) :=
      congrArg _ (serve_noSession h (ofKind_of_kind h.kind rfl) (by decide) rfl hh)
    rw [row, answer_close close]
    rfl

/-! Reads. -/

/-- A COUNTER_READ is of the row that its body asks for (R163, log 8). -/
theorem asksClear_of_body {v : Byte} (hk : q.kind? = some 0x15#8) (hb : q.body = [v]) : asksClear q = (v == 1#8) := by
  simp [asksClear, hk, hb]

theorem counterRead_row (h : s.Ready q rest 0x15#8) (hc : asksClear q = false) :
    exec .counterRead s = .next (readCounters q (s.inOpenHand rest)) :=
  congrArg _ (serve_open h (by simp [ofKind_of_kind h.kind (n := 0x15) rfl, hc]) (by decide) rfl)

theorem counterReadClear_row (h : s.ReadyHeld q rest 0x15#8) (hc : asksClear q = true) :
    exec .counterReadClear s = .next (readAndClearCounters q (s.inHand rest)) :=
  congrArg _ (serve_held h (by simp [ofKind_of_kind h.kind (n := 0x15) rfl, hc]) (by decide) rfl)

/-- Settles O41: each read answers with its body, and clearing follows the reading of the counters. -/
theorem statusFaultAndCounterReads : Obligations.StatusFaultAndCounterReads := by
  refine fun s q rest => ⟨fun h hb => ?status, fun h hb => ?faults, fun h hb => ?counters, fun h hb => ?clear⟩
  case status =>
    have row : exec .statusRead s = .next (readStatus q (s.inOpenHand rest)) := by
      rw [← bare_of_nil (run := readStatus) hb]
      exact congrArg _ (open_row h (by decide))
    rw [row, readStatus, answer_inOpenHand h (by decide)]
  case faults =>
    have row : exec .faultRead s = .next (readFaults q (s.inOpenHand rest)) := by
      rw [← bare_of_nil (run := readFaults) hb]
      exact congrArg _ (open_row h (by decide))
    rw [row, readFaults, answer_inOpenHand h (by decide)]
    rfl
  case counters =>
    rw [counterRead_row h (by rw [asksClear_of_body h.kind hb]; decide), readCounters, if_pos hb,
      answer_inOpenHand h (by decide)]
    rfl
  case clear =>
    rw [counterReadClear_row h (by rw [asksClear_of_body h.kind hb]; decide), readAndClearCounters,
      answer_held h (by decide) (s.inHand rest).clearCounters rfl rfl]
    exact ⟨_, rfl, rfl, fun c => Tab.get_replicate _ c.code, fun k => Tab.get_map _ _ k, rfl, rfl, rfl, rfl, rfl⟩

/-! Tables. -/

/-- Settles O43: the write by the commit state, the body's form and its range. -/
theorem tableWriteWritesStaging : Obligations.TableWriteWritesStaging := by
  intro s q rest h
  have row : exec .tableWrite s = .next (writeTable q (s.inHand rest)) := congrArg _ (held_row h (by decide))
  have ans := answer_inHand h (by decide)
  rw [row]
  refine ⟨fun busy => ?_, fun idle unread => ?_, fun w idle read out => ?_, fun w idle read ok => ?_⟩
  · simp [writeTable, busy, ans]
  · simp [writeTable, idle, unread, ans]
  · simp [writeTable, idle, read, out, ans]
  · simp only [writeTable, State.banks_withAgent, idle, read, ok, Bool.false_eq_true, if_false, if_true]
    exact congrArg _ (answer_held h (by decide) _ (by rfl) (by rfl) _ _)

/-- Settles O45: the abort by the commit state. -/
theorem commitAbortKeepsStaging : Obligations.CommitAbortKeepsStaging := by
  intro s q rest h hb
  have row : exec .commitAbort s = .next (abortCommit q (s.inHand rest)) := by
    rw [← bare_of_nil (run := abortCommit) hb]
    exact congrArg _ (held_row h (by decide))
  rw [row]
  refine ⟨fun pending => ?_, fun idle => ?_⟩
  · simp only [abortCommit, State.banks_withAgent, pending, if_true]
    refine ⟨_, rfl, rfl, ?_, fun b hburst => ?_, rfl, rfl⟩
    · exact congrArg State.agent (answer_held h (by decide) _ (by rfl) (by rfl) _ _)
    · have dropped : s.burst.map (fun b => { b with carriesSwap := false }) = some b := hburst
      obtain ⟨c, -, rfl⟩ := Option.map_eq_some_iff.mp dropped
      rfl
  · simp [abortCommit, idle, answer_inHand h (by decide)]

/-! Reports. -/

theorem any_sent (l : List Record) : l.any (·.sent.isSome) = decide (∃ d ∈ l, d.sent ≠ none) := by
  rw [Bool.eq_iff_iff]
  simp [Option.isSome_iff_ne_none]

theorem covered_eq_none {r : Report} {n : BitVec 16} (h : n ∉ r.outstanding) : r.covered n = none := by
  simp [Report.covered, h]

/-- Settles O49: the acknowledgement by the frame that it names. -/
theorem acknowledgeRemovesTheWindow : Obligations.AcknowledgeRemovesTheWindow := by
  intro s q rest e n1 n0 h hb
  have row : exec .reportAck s = .next (ackReport q (s.inHand rest)) := congrArg _ (held_row h (by decide))
  have ans := answer_inHand h (by decide)
  dsimp only
  rw [row]
  refine ⟨fun l he hc => ?_, fun stale => ?_⟩
  · have acked : ackReport q (s.inHand rest) = (s.withReport (s.report.remove l)).withAgent
        (s.agent.servedHolder rest (s.responseTo q stOk (byteOf (s.report.records.countP (Record.sentIn l))))) := by
      simp only [ackReport, hb, State.report_withAgent, hc, he, if_true]
      exact answer_held h (by decide) _ (by rfl) (by rfl) _ _
    rw [acked]
    refine ⟨_, rfl, rfl, rfl, rfl, ?_, rfl, rfl, rfl, rfl, rfl⟩
    exact congrArg (fun b => (⟨b, 0⟩ : ReportTimer)) (any_sent _)
  · have refused : ackReport q (s.inHand rest) = (s.inHand rest).answer q stStaleAck [] := by
      simp only [ackReport, hb, State.report_withAgent]
      obtain he | hn := stale
      · split
        · exact if_neg he
        · rfl
      · rw [covered_eq_none hn]
    rw [refused, ans]

/-- Settles O50: the read by its maximum and the reporter's state, the resume by the reporter's state. -/
theorem reportReadAndResume : Obligations.ReportReadAndResume := by
  refine fun s q rest => ⟨fun n h hb lo hi => ?_, fun n h hb out => ?_, fun h hb => ?_⟩
  · have row : exec .reportRead s = .next (readReport q (s.inHand rest)) := congrArg _ (held_row h (by decide))
    have range : within 1 8 n.toNat = true := by simp [within, lo, hi]
    rw [row]
    refine ⟨fun idle => ?_, fun active => ?_⟩
    · simp only [readReport, hb, range, State.report_withAgent, idle, if_true, if_false]
      rw [List.length_drop]
      exact congrArg _ (answer_held h (by decide) _ (by rfl) (by rfl) _ _)
    · simp [readReport, hb, range, active, answer_inHand h (by decide)]
  · have row : exec .reportRead s = .next (readReport q (s.inHand rest)) := congrArg _ (held_row h (by decide))
    have range : within 1 8 n.toNat = false := by simp [within]; omega
    simp [row, readReport, hb, range, answer_inHand h (by decide)]
  · have row : exec .reportResume s = .next (resumeReport q (s.inHand rest)) := by
      rw [← bare_of_nil (run := resumeReport) hb]
      exact congrArg _ (held_row h (by decide))
    rw [row]
    refine ⟨fun halted => ?_, fun other => ?_⟩
    · simp only [resumeReport, State.report_withAgent, halted, if_true]
      exact congrArg _ (answer_held h (by decide) _ (by rfl) (by rfl) _ _)
    · simp [resumeReport, other, answer_inHand h (by decide)]

/-! Faults. -/

theorem getLsbD_truncate (v : Byte) (k : Fin 6) : (v.truncate 6).getLsbD k = v.getLsbD k := by
  simp

/-- Settles O51: the flags place by place, and the status by whether a named kind stays set. -/
theorem faultClearKeepsPresentCauses : Obligations.FaultClearKeepsPresentCauses := by
  intro s q rest v h hb lo hi
  have row : exec .faultClear s = .next (clearFaults q (s.inHand rest)) := congrArg _ (held_row h (by decide))
  have range : within 1 0x3F v.toNat = true := by simp [within, lo, hi]
  let m : BitVec 6 := v.truncate 6
  let u := s.withFaults (s.faults.mapIdx fun k p => if s.clears m k then { p with flag := false } else p)
  let status := if s.staysSet m then stCausePresent else stOk
  have done : clearFaults q (s.inHand rest) = u.withAgent (s.agent.servedHolder rest (s.responseTo q status u.flagBytes)) := by
    simp only [clearFaults, hb, range, if_true]
    exact answer_held h (by decide) _ (by rfl) (by rfl) _ _
  have faults (k : Fin 6) : u.faults.get k
      = ⟨(s.faults.get k).flag && !(v.getLsbD k && !s.causePersists k), (s.faults.get k).raises⟩ := by
    have named : s.clears m k = (v.getLsbD k && !s.causePersists k) := by
      rw [State.clears, getLsbD_truncate]
    show (s.faults.mapIdx _).get k = _
    rw [Tab.get_mapIdx, named]
    cases v.getLsbD k && !s.causePersists k <;> simp
  rw [row, done]
  refine ⟨_, status, rfl, rfl, faults, fun ⟨k, hv, hf, hc⟩ => ?_, fun cleared => ?_⟩
  · have stays : s.staysSet m = true := by
      simp only [State.staysSet, List.any_eq_true, List.mem_finRange, true_and]
      exact ⟨k, by rw [getLsbD_truncate, hv, hf, hc]; rfl⟩
    simp [status, stays]
  · have none_ : s.staysSet m = false := by
      simp only [State.staysSet, List.any_eq_false, List.mem_finRange, true_implies]
      intro k
      rw [getLsbD_truncate]
      intro stays
      obtain ⟨⟨hv, hf⟩, hc⟩ : (v.getLsbD k = true ∧ s.flag k = true) ∧ s.causePersists k = true := by
        simpa only [Bool.and_eq_true] using stays
      have off : (u.faults.get k).flag = false := cleared k hv
      rw [faults k, hv, hc] at off
      have set : (s.faults.get k).flag = true := hf
      simp [set] at off
    simp [status, none_]

/-! The session and the duplicate test. -/

/-- A duplicate of the holder is answered from the cache by any row that takes it (R172). -/
theorem serve_duplicate {mine needs : Request → Bool} {r : Response} (head : s.agent.inbox = q :: rest) (free : s.agent.hold = none)
    (room : s.agent.responses.length < 4) (sound : q.headerFault = false) (hh : s.agent.isHolder q = true)
    (dup : s.agent.duplicate q = some r) (hm : mine q = true) :
    serve mine needs run s = s.withAgent { s.agent with
      inbox := rest, responses := s.agent.responses ++ [r], session := s.agent.session.map Session.restart } := by
  simp [serve, head, free, room, sound, hh, dup, hm, Agent.push, Agent.restartLease]

/-- A row takes the requests of its kind and those of no known kind (log 24). -/
theorem ofKind_of_unknown {n : Nat} {u : Byte} (h : q.kind? = some u) (hu : u.toNat = 0 ∨ 21 < u.toNat) : ofKind n q = true := by
  have : knownKind u = false := by simp [knownKind]; omega
  simp [ofKind, h, this]

theorem noSession_row {mine needs : Request → Bool} (h : s.Ready q rest k) (hk : knownKind k = true) (hm : mine q = true)
    (hn : needs q = true) (hh : s.agent.isHolder q = false) :
    serve mine needs run s = s.withAgent { s.agent with
      inbox := rest, responses := s.agent.responses ++ [s.responseTo q stNoSession []] } := by
  have other : ({ s.agent with inbox := rest } : Agent).isHolder q = false := hh
  rw [serve_noSession h hm hk hn hh]
  simp [State.answer, other, Agent.push, State.responseTo, State.headerByte]

theorem ne_counterRead {u : Byte} (hu : u.toNat = 0 ∨ 21 < u.toNat) : u ≠ 0x15#8 := by
  rintro rfl
  revert hu
  decide

/-- Each session row is `serve` with a test that its own kind passes, needing the session. -/
theorem sessionRow_serve {c : Instr} (hc : (c, k) ∈ sessionRows)
    (hk : q.kind? = some k ∧ q.fits c ∨ ∃ u, q.kind? = some u ∧ (u.toNat = 0 ∨ 21 < u.toNat)) :
    knownKind k = true ∧ ∃ mine run, mine q = true ∧ ∀ s, exec c s = .next (serve mine always run s) := by
  have plain {n : Nat} (hn : k.toNat = n) : ofKind n q = true := by
    obtain ⟨h, -⟩ | ⟨u, h, hu⟩ := hk
    · exact ofKind_of_kind h hn
    · exact ofKind_of_unknown h hu
  have clear (hn : c = .counterReadClear) (hn' : k.toNat = 0x15) :
      (ofKind 0x15 q && (asksClear q || decide (q.kind? ≠ some 0x15#8))) = true := by
    rw [plain hn']
    obtain ⟨h, fits⟩ | ⟨u, h, hu⟩ := hk
    · rw [fits.1 hn]; rfl
    · simp [h, ne_counterRead hu]
  simp only [sessionRows, List.mem_cons, Prod.mk.injEq, List.not_mem_nil, or_false] at hc
  rcases hc with ⟨rfl, rfl⟩ | ⟨rfl, rfl⟩ | ⟨rfl, rfl⟩ | ⟨rfl, rfl⟩ | ⟨rfl, rfl⟩ | ⟨rfl, rfl⟩ | ⟨rfl, rfl⟩ | ⟨rfl, rfl⟩ | ⟨rfl, rfl⟩
    | ⟨rfl, rfl⟩ | ⟨rfl, rfl⟩ | ⟨rfl, rfl⟩ | ⟨rfl, rfl⟩ | ⟨rfl, rfl⟩ | ⟨rfl, rfl⟩ | ⟨rfl, rfl⟩
  case inr.inr.inr.inr.inr.inr.inr.inr.inr.inr.inr.inr.inr.inr.inr =>
    exact ⟨by decide, _, _, clear rfl rfl, fun _ => rfl⟩
  all_goals exact ⟨by decide, _, _, plain rfl, fun _ => rfl⟩

/-- Each open row is `serve` with a test that its own kind passes. -/
theorem openRow_serve {c : Instr} (hc : (c, k) ∈ openRows)
    (hk : q.kind? = some k ∧ q.fits c ∨ ∃ u, q.kind? = some u ∧ (u.toNat = 0 ∨ 21 < u.toNat)) :
    ∃ mine run, mine q = true ∧ ∀ s, exec c s = .next (serve mine never run s) := by
  have plain {n : Nat} (hn : k.toNat = n) : ofKind n q = true := by
    obtain ⟨h, -⟩ | ⟨u, h, hu⟩ := hk
    · exact ofKind_of_kind h hn
    · exact ofKind_of_unknown h hu
  have unclear (hn : c = .counterRead) (hn' : k.toNat = 0x15) : (ofKind 0x15 q && !asksClear q) = true := by
    rw [plain hn']
    obtain ⟨h, fits⟩ | ⟨u, h, hu⟩ := hk
    · rw [fits.2 hn]; rfl
    · simp [asksClear, h, ne_counterRead hu]
  simp only [openRows, List.mem_cons, Prod.mk.injEq, List.not_mem_nil, or_false] at hc
  rcases hc with ⟨rfl, rfl⟩ | ⟨rfl, rfl⟩ | ⟨rfl, rfl⟩ | ⟨rfl, rfl⟩ | ⟨rfl, rfl⟩ | ⟨rfl, rfl⟩
  case inr.inr.inr.inr.inr => exact ⟨_, _, unclear rfl rfl, fun _ => rfl⟩
  all_goals exact ⟨_, _, plain rfl, fun _ => rfl⟩

/-- Settles O52: every row goes through `serve`, which makes the two tests. -/
theorem sessionAndDuplicateTests : Obligations.SessionAndDuplicateTests := by
  refine fun s q rest c => ⟨fun k hc hq h hh => ?_, fun r head free room sound hh dup ⟨k, hc, hk⟩ => ?_⟩
  · obtain ⟨known, mine, run, hm, row⟩ := sessionRow_serve hc (.inl ⟨h.kind, hq⟩)
    rw [row, noSession_row h known hm rfl hh]
  · obtain hs | ho := List.mem_append.mp hc
    · obtain ⟨-, mine, run, hm, row⟩ := sessionRow_serve hs hk
      rw [row, serve_duplicate head free room sound hh dup hm]
    · obtain ⟨mine, run, hm, row⟩ := openRow_serve ho hk
      rw [row, serve_duplicate head free room sound hh dup hm]

end Sys2Proof.Machine
end

section
/-! SUPPORT. What a swap of the banks and the end of a burst leave, and the statement about COMMIT. -/

namespace Sys2Proof.Machine

variable {s t : State}

/-! Input changes accepted together. -/

/-- An input line whose change has been accepted (R104). -/
def InputRt.accept (r : InputRt) : InputRt := { r with accepted := r.pin, since := none }

theorem acceptInput_eq (s : State) (k : Fin 4) : s.acceptInput k =
    (let u := s.withInputs (s.inputs.modify k InputRt.accept)
    if s.inputWatched k then u.offerOrdinary (.inputEdge k (s.inputs.get k).pin u.inputLevels s.stampNow) else u) := rfl

/-- The edge of an accepted change joins the Intake Queue when it finds room and a trigger waits for it (R7, R104). -/
theorem acceptInput_room (k : Fin 4) (room : s.intake.length < 16) : ∃ i,
    s.acceptInput k = (s.withInputs (s.inputs.modify k InputRt.accept)).withIntake i ∧ i.length ≤ s.intake.length + 1
    ∧ (s.inputWatched k = false → i = s.intake) := by
  rw [acceptInput_eq]
  dsimp only
  split
  · rename_i watched
    rw [offerOrdinary_room _ (by exact room)]
    exact ⟨_, rfl, by simp, fun off => (Bool.false_ne_true (off.symm.trans watched)).elim⟩
  · exact ⟨s.intake, rfl, by simp, fun _ => rfl⟩

/-- Changes of the inputs in `l`, accepted one after the other where every edge finds room. -/
theorem overList_acceptInput (l : List (Fin 4)) : ∀ {s : State}, s.intake.length + l.length ≤ 16 → ∃ i,
    overList State.acceptInput s l
      = (s.withInputs (s.inputs.mapIdx fun k r => if k ∈ l then r.accept else r)).withIntake i
    ∧ ((∀ k, s.inputWatched k = false) → i = s.intake) := by
  induction l with
  | nil =>
    intro s _
    refine ⟨s.intake, ?_, fun _ => rfl⟩
    have same : (s.inputs.mapIdx fun k r => if k ∈ ([] : List (Fin 4)) then r.accept else r) = s.inputs :=
      Tab.ext_get fun k => by simp
    rw [same]; rfl
  | cons k l ih =>
    intro s room
    simp only [List.length_cons] at room
    obtain ⟨i, hi, longer, calm⟩ := acceptInput_room (s := s) k (by omega)
    have inputs : ((s.inputs.modify k InputRt.accept).mapIdx fun j r => if j ∈ l then r.accept else r)
        = s.inputs.mapIdx fun j r => if j ∈ k :: l then r.accept else r := by
      refine Tab.ext_get fun j => ?_
      simp only [Tab.get_mapIdx, Tab.get_modify, List.mem_cons]
      by_cases hk : k = j <;> by_cases hj : j ∈ l <;> simp [hk, hj, Ne.symm, InputRt.accept]
    obtain ⟨i', hi', calm'⟩ := ih (s := (s.withInputs (s.inputs.modify k InputRt.accept)).withIntake i) (by simp; omega)
    refine ⟨i', ?_, fun off => ?_⟩
    · show overList State.acceptInput (s.acceptInput k) l = _
      rw [hi, hi', ← inputs]; rfl
    · rw [calm' off]; exact calm (off k)

theorem mem_bringFront {α : Type} (i : Nat) (l : List α) (a : α) : a ∈ bringFront i l ↔ a ∈ l := by
  unfold bringFront
  split
  · rename_i b hb
    obtain ⟨hi, rfl⟩ := List.getElem?_eq_some_iff.mp hb
    exact (List.getElem_cons_eraseIdx_perm hi).mem_iff
  · rfl

/-- A list in the order that free values pick holds what it held. -/
theorem shuffle_spec {α : Type} (n : Nat) : ∀ (s : State) (l : List α), l.length = n →
    (∃ f, (shuffle n s l).1 = s.withFreeIdx f) ∧ (shuffle n s l).2.length = n ∧ ∀ a, a ∈ (shuffle n s l).2 ↔ a ∈ l := by
  induction n with
  | zero => exact fun s l h => ⟨⟨s.freeIdx, rfl⟩, h, fun _ => .rfl⟩
  | succ n ih =>
    intro s l h
    have same := length_bringFront (s.pickBelow l.length) l
    have members := mem_bringFront (s.pickBelow l.length) l
    unfold shuffle
    split
    · rename_i empty; rw [empty, h] at same; cases same
    · rename_i a rest front
      rw [front] at same members
      obtain ⟨⟨f, hf⟩, len, mem⟩ := ih s.spend rest (by simpa [h] using same)
      exact ⟨⟨f, hf⟩, by simp [len], fun b => by rw [← members]; simp [mem]⟩

/-- Every change that is due is accepted, and nothing else happens where the edges find room (R104, R105). -/
theorem acceptDue_room (room : s.intake.length ≤ 12) : ∃ i f,
    s.acceptDue
      = ((s.withInputs (s.inputs.mapIdx fun k r => if s.inputDue k then r.accept else r)).withIntake i).withFreeIdx f
    ∧ ((∀ k, s.inputWatched k = false) → i = s.intake) := by
  let due := (List.finRange 4).filter fun k => s.inputDue k
  have few : due.length ≤ 4 := (List.length_filter_le _ _).trans (by simp)
  have accepted (v : State) (l : List (Fin 4)) (f : Nat) (hv : v = s.withFreeIdx f) (hl : l.length = due.length)
      (mem : ∀ k, k ∈ l ↔ k ∈ due) : ∃ i f', overList State.acceptInput v l
        = ((s.withInputs (s.inputs.mapIdx fun k r => if s.inputDue k then r.accept else r)).withIntake i).withFreeIdx f'
      ∧ ((∀ k, s.inputWatched k = false) → i = s.intake) := by
    subst hv
    obtain ⟨i, hi, calm⟩ := overList_acceptInput l (s := s.withFreeIdx f) (by simp; omega)
    refine ⟨i, f, ?_, calm⟩
    have inputs : (s.inputs.mapIdx fun k r => if k ∈ l then r.accept else r)
        = s.inputs.mapIdx fun k r => if s.inputDue k then r.accept else r :=
      Tab.ext_get fun k => by simp [mem, due]
    rw [hi, ← inputs]; rfl
  unfold State.acceptDue
  dsimp only
  split
  · exact accepted s due s.freeIdx rfl rfl fun _ => .rfl
  · obtain ⟨⟨f, hf⟩, len, mem⟩ := shuffle_spec due.length s due rfl
    exact accepted _ _ f hf len mem

/-! The swap. -/

theorem get_carryWatch (old new : Bank) (i : Fin 64) (w : WatchRt) : carryWatch old new i w
    = if old.watches.get i = new.watches.get i then
        (if old.channels.get (new.watches.get i).channel = new.channels.get (new.watches.get i).channel then w
          else { w with truth := .unknown })
      else if (new.watches.get i).valid then ⟨.unknown, (new.watches.get i).a, (new.watches.get i).b⟩ else {} := rfl

theorem get_carryTrain (old new : Bank) (k : Fin 8) (r : TrainRt) : carryTrain old new k r
    = if old.trains.get k = new.trains.get k then
        (if old.channels.get (new.trains.get k).channel = new.channels.get (new.trains.get k).channel then r
          else { r with state := .idle, on := false })
      else {} := rfl

theorem banks_swap (s : State) : s.swap.banks
    = { active := s.banks.staging, staging := s.banks.staging, commitPending := false, outcome := some .swapped
        generation := if s.banks.generation = 65535 then 1 else s.banks.generation + 1 } := by
  rw [State.swap, State.acceptDue_banks]; rfl

theorem inputDue_iff (s : State) (k : Fin 4) : s.inputDue k = true ↔
    ∃ m, (s.inputs.get k).since = some m ∧ m + 1000 * (s.banks.active.inputs.get k).filter ≤ s.now := by
  unfold State.inputDue
  split
  · rename_i m since; simp [since]
  · rename_i still; simp [still]

theorem inputDue_swapBanks (s : State) (k : Fin 4) : s.swapBanks.inputDue k = true ↔
    ∃ m, (s.inputs.get k).since = some m ∧ m + 1000 * (s.banks.staging.inputs.get k).filter ≤ s.now := by
  rw [inputDue_iff, State.swapBanks_inputs, State.swapBanks_now, active_swapBanks]

/-- A swap carries the runtime of every table by Figure 9-14, and accepts the input changes that the new filters let through. -/
theorem swap_carries (room : s.intake.length ≤ 12) : s.SwapCarries s.swap := by
  obtain ⟨i, f, h, -⟩ := acceptDue_room (s := s.swapBanks) (by simpa using room)
  have inputs (k : Fin 4) : s.swap.inputs.get k
      = if s.swapBanks.inputDue k then (s.inputs.get k).accept else s.inputs.get k := by
    rw [State.swap, h]; simp
  have engine : s.swap.engine = s.engine := by rw [State.swap, h]; simp
  refine ⟨fun i => ?_, fun i => ?_, fun i => ?_, fun i => ?_, fun i => ?_, fun i => ?_, fun k kept => ?_, fun k m since due => ?_,
    fun i => ?_, ?_, engine⟩
  · rw [State.swap, h]; exact channels_swapBanks s i
  · rw [State.swap, h]; exact (watches_swapBanks s i).trans (get_carryWatch _ _ _ _)
  · rw [State.swap, h]
    refine (triggers_swapBanks s i).trans ?_
    simp [TriggerEntry.start]
  · rw [State.swap, h]; exact (trains_swapBanks s i).trans (get_carryTrain _ _ _ _)
  · rw [State.swap, h]; exact timers_swapBanks s i
  · rw [State.swap, h]; exact outputs_swapBanks s i
  · rw [inputs, if_neg]
    rw [inputDue_swapBanks]
    rintro ⟨m, since, due⟩
    have := kept m since
    omega
  · rw [inputs, if_pos]
    · rfl
    · rw [inputDue_swapBanks]; exact ⟨m, since, due⟩
  · rw [State.swap, h]; exact patches_swapBanks s i
  · rw [State.swap, h]
    exact report_swapBanks s

/-! The end of a burst. -/

theorem patchOne_fst (station : Byte) (x : State × Frame × Bool) (i : Fin 16) :
    ∃ p c, (patchOne station x i).1 = (x.1.withPatches p).withCounters c := by
  unfold patchOne
  dsimp only
  split
  · split
    · exact ⟨x.1.patches.set i _, x.1.counters, rfl⟩
    · exact ⟨x.1.patches, _, rfl⟩
  · exact ⟨x.1.patches, x.1.counters, rfl⟩

theorem patchFrame_fst (s : State) (station : Byte) (f : Frame) :
    ∃ p c, (patchFrame s station f).1 = (s.withPatches p).withCounters c := by
  suffices H : ∀ (l : List (Fin 16)) (x : State × Frame × Bool),
      ∃ p c, (l.foldl (patchOne station) x).1 = (x.1.withPatches p).withCounters c from H _ (s, f, false)
  intro l
  induction l with
  | nil => exact fun x => ⟨x.1.patches, x.1.counters, rfl⟩
  | cons i l ih =>
    intro x
    obtain ⟨p, c, h⟩ := ih (patchOne station x i)
    obtain ⟨p', c', h'⟩ := patchOne_fst station x i
    exact ⟨p, c, by rw [List.foldl_cons, h, h']; rfl⟩

/-- The work on a burst's frame touches patches, counters and the Forward Buffer alone (R112 to R115). -/
theorem patchAndRelease_eq (s : State) (id : Nat) :
    ∃ p c w, s.patchAndRelease id = ((s.withPatches p).withCounters c).withForward w := by
  unfold State.patchAndRelease
  split
  · rename_i b _
    obtain ⟨p, c, h⟩ := patchFrame_fst s (s.sourceByte b.bytes) b.bytes
    dsimp only
    rw [h]
    exact ⟨p, c, _, rfl⟩
  · exact ⟨s.patches, s.counters, s.forward, rfl⟩

/-- The burst has nothing left to fire. -/
theorem burstWork_end {b : Burst} (hb : s.burst = some b) (hf : b.firing = none) (hp : b.pending = []) :
    s.burstWork = s.endBurst b := by
  simp [State.burstWork, hb, hf, hp]

theorem finishHeld_of_none (h : s.agent.hold = none) : s.finishHeld = s := by simp [State.finishHeld, h]

theorem finishHeld_of_commit {q : Request} (h : s.agent.hold = some q) (hk : q.kind? = some 0x06#8) :
    s.finishHeld = finishCommit q s.unhold := by simp [State.finishHeld, h, hk]

/-! Responses to requests that have waited. -/

/-- The header of a request that carries a kind is read from the request alone. -/
theorem responseTo_congr {q : Request} {k : Byte} (h : q.kind? = some k) (s t : State) (status : Byte) (body : List Byte) :
    s.responseTo q status body = t.responseTo q status body := by
  have long : 3 < q.bytes.length := (List.getElem?_eq_some_iff.mp h).1
  have byte (i : Nat) (hi : i ≤ 3) : s.headerByte q i = t.headerByte q i := by
    unfold State.headerByte
    rw [List.getD_eq_getElem _ _ (by omega), List.getD_eq_getElem _ _ (by omega)]
  simp [State.responseTo, byte]

/-- The answer to a request that has waited (R17, R146, R167, R172). -/
theorem answer_waiting {q : Request} {k : Byte} (hk : q.kind? = some k) (hc : k ≠ 0x02#8) (g : Agent) (u t : State)
    (ht : t.agent = { g with hold := none }) (status : Byte) (body : List Byte) :
    t.answer q status body = t.withAgent (g.servedWaiting q (u.responseTo q status body)) := by
  have holder : ({ g with hold := none } : Agent).isHolder q = g.isHolder q := rfl
  simp only [State.answer, ht, holder, isClose_of_kind hk hc, Bool.not_false, Bool.and_true, Agent.push,
    responseTo_congr hk t u, Agent.servedWaiting]
  split <;> rfl

/-! What a swap leaves of a burst that has ended. -/

theorem burst_isNone_settle (s t : State) : (settle s t).burst.isNone = t.burst.isNone := by
  unfold settle
  split <;> simp

theorem burst_isNone_dropEvent (s : State) (e : Event) : (s.dropEvent e).burst.isNone = s.burst.isNone := by
  rw [State.dropEvent, State.releaseEvent_burst, State.raiseFault, burst_isNone_settle]
  simp

theorem burst_isNone_acceptInput (s : State) (k : Fin 4) : (s.acceptInput k).burst.isNone = s.burst.isNone := by
  rw [acceptInput_eq]
  dsimp only
  split
  · unfold State.offerOrdinary
    split
    · rfl
    · exact burst_isNone_dropEvent _ _
  · rfl

theorem burst_isNone_swap (s : State) : s.swap.burst.isNone = s.burst.isNone := by
  have kept (v : State) (l : List (Fin 4)) : (overList State.acceptInput v l).burst.isNone = v.burst.isNone :=
    overList_keep (fun v : State => v.burst.isNone) _ burst_isNone_acceptInput v l
  unfold State.swap State.acceptDue
  dsimp only
  split <;> simp [kept]

namespace State.SwapCarries

theorem withAgent (c : s.SwapCarries t) (a : Agent) : s.SwapCarries (t.withAgent a) :=
  ⟨c.channels, c.watches, c.triggers, c.trains, c.timers, c.outputs, c.inputsKept, c.inputsDue, c.patches, c.report, c.engine⟩

theorem of_withAgent {a : Agent} (c : (s.withAgent a).SwapCarries t) : s.SwapCarries t :=
  ⟨c.channels, c.watches, c.triggers, c.trains, c.timers, c.outputs, c.inputsKept, c.inputsDue, c.patches, c.report, c.engine⟩

theorem of_withBurst {b : Option Burst} (c : (s.withBurst b).SwapCarries t) : s.SwapCarries t :=
  ⟨c.channels, c.watches, c.triggers, c.trains, c.timers, c.outputs, c.inputsKept, c.inputsDue, c.patches, c.report, c.engine⟩

end State.SwapCarries

theorem commitBody_swap (s : State) : s.swap.commitBody
    = flagByte false ++ beBytes 2 (if s.banks.generation = 65535 then 1 else s.banks.generation + 1) := by
  rw [State.commitBody, banks_swap]

/-- A request that waits for the burst's end to swap is answered there (R146). -/
theorem finishCommit_waiting {q : Request} (hk : q.kind? = some 0x06#8) (u : State) :
    finishCommit q u.unhold = u.unhold.swap.withAgent (u.agent.servedWaiting q (u.responseTo q stOk
      (flagByte false ++ beBytes 2 (if u.banks.generation = 65535 then 1 else u.banks.generation + 1)))) := by
  unfold finishCommit
  dsimp only
  rw [commitBody_swap]
  exact answer_waiting hk (by decide) u.agent u _ (by rw [State.swap_agent]; rfl) _ _

/-- The state after the work on the frame of a burst, when it has one. -/
def State.frameWork (s : State) (b : Burst) : State := match b.frame with | some id => s.patchAndRelease id | none => s

theorem endBurst_eq (s : State) (b : Burst) : s.endBurst b = (let u := (s.frameWork b).withBurst none
    (if b.carriesSwap && u.banks.commitPending then u.swap else u).finishHeld) := rfl

theorem frameWork_eq (s : State) (b : Burst) : ∃ p c w, s.frameWork b = ((s.withPatches p).withCounters c).withForward w := by
  unfold State.frameWork
  split
  · exact patchAndRelease_eq s _
  · exact ⟨s.patches, s.counters, s.forward, rfl⟩

/-- Settles O44: the commit by the commit state, validation, tracker and burst; a held one at the burst's end. -/
theorem commitByTrackerState : Obligations.CommitByTrackerState := by
  refine ⟨fun s q rest h hb => ?taken, fun s q b held hk hb hf hp idle => ?ended⟩
  case taken =>
    have row : exec .commit s = .next (commitStaging q (s.inHand rest)) := by
      rw [← bare_of_nil (run := commitStaging) hb]
      exact congrArg _ (held_row h (by decide))
    have ans := answer_inHand h (by decide)
    rw [row]
    refine ⟨fun busy => ?_, fun f idle bad => ?_, fun g idle good locked => ?_, fun idle good free none_ => ?_,
      fun idle good free some_ => ?_⟩
    · simp [commitStaging, busy, ans]
    · simp [commitStaging, idle, bad, ans]
    · simp only [commitStaging, State.banks_withAgent, idle, good, acceptCommit, State.tracker_withAgent, locked,
        Bool.false_eq_true, if_false]
      exact congrArg _ (answer_held h (by decide) _ (by rfl) (by rfl) _ _)
    · have swapped : commitStaging q (s.inHand rest) = finishCommit q (s.inHand rest) := by
        simp [commitStaging, idle, good, acceptCommit, none_]
      obtain ⟨r, c, agent⟩ := agent_answer (s.inHand rest).swap q stOk (s.inHand rest).swap.commitBody
      rw [State.swap_agent] at agent
      rw [swapped]
      refine ⟨_, rfl, ?_, ?_, ?_, ?_, ?_, ?_, fun room => ?_⟩
      · exact congrArg Agent.inbox agent
      · exact (State.answer_banks _ _ _ _).trans (banks_swap _)
      · exact (congrArg (fun g : Agent => g.responses.length) agent).trans (by simp)
      · simp [finishCommit]
      · simp [finishCommit]
      · simp [finishCommit]
      · exact ((swap_carries (s := s.inHand rest) room).of_withAgent).withAgent _
    · have held : commitStaging q (s.inHand rest) = (s.inHand rest).waitFor q := by
        have busy : s.burst.isNone = false := by simpa using some_
        simp [commitStaging, idle, good, acceptCommit, busy]
      rw [held]
      rfl
  case ended =>
    obtain ⟨p, c, w, hu⟩ := frameWork_eq s b
    dsimp only
    have work : s.burstWork = finishCommit q ((((s.withPatches p).withCounters c).withForward w).withBurst none).unhold := by
      have unswapped : (b.carriesSwap && s.banks.commitPending) = false := by
        obtain h | h := idle <;> simp [h]
      rw [burstWork_end hb hf hp, endBurst_eq, hu]
      simp only [State.banks_withBurst, State.banks_withForward, State.banks_withCounters, State.banks_withPatches, unswapped,
        Bool.false_eq_true, if_false]
      exact finishHeld_of_commit held hk
    rw [work, finishCommit_waiting hk]
    refine ⟨_, rfl, ?_, banks_swap _, ?_, ?_, ?_, ?_, fun room => ?_⟩
    · exact Option.isNone_iff_eq_none.mp (burst_isNone_swap _)
    · rw [responseTo_congr hk _ s]; rfl
    · exact State.swap_tracker _
    · exact State.swap_link _
    · exact State.swap_now _
    · have carried : (s.frameWork b).SwapCarries
          (((s.withPatches p).withCounters c).withForward w |>.withBurst none).unhold.swap := by
        rw [hu]
        exact (swap_carries (by exact room)).of_withAgent.of_withBurst
      exact carried.withAgent _

end Sys2Proof.Machine
end

section
/-! SUPPORT. The statements about the claims on the Trigger Unit, taken at once or waited for, and about the two reads by entry. -/

namespace Sys2Proof.Machine

variable {s t u : State} {q : Request} {rest : List Request} {k : Byte} {take run : Request → State → State}

/-! What each claim does. -/

/-- The answer to the holder's request, whatever free values have been read on the way. -/
theorem answer_holder (h : s.ReadyHeld q rest k) (hk : k ≠ 0x02#8)
    (ht : t.agent = { s.agent with inbox := rest, session := s.agent.session.map Session.restart }) (status : Byte)
    (body : List Byte) : t.answer q status body = t.withAgent (s.agent.servedHolder rest (s.responseTo q status body)) := by
  simp [State.answer, ht, h.held, isClose_of_kind h.kind hk, Agent.push, Agent.servedHolder, responseTo_congr h.kind t s]

theorem takeRun_of_free (h : s.engine ≠ .disarmed ∨ ∀ k, s.inDisarmSet k = true → s.flag k = false) (q : Request) :
    takeRun q s = (s.withEngine .running).answer q stOk [1#8] := by
  have free : s.runFaulted = false := by
    obtain h | h := h
    · simp [State.runFaulted, h]
    · have clear : s.disarmKindSet = false := by
        simp only [State.disarmKindSet, List.any_eq_false, List.mem_finRange, Bool.and_eq_true, not_and, true_implies]
        exact fun k hk => by simp [h k hk]
      simp [State.runFaulted, clear]
  have one : byteOf 1 = [1#8] := by decide
  simp only [takeRun, free, Bool.false_eq_true, if_false, State.engine_withEngine, EngineState.code, one]

theorem takeRun_of_faulted {j : Fin 6} (he : s.engine = .disarmed) (hj : s.inDisarmSet j = true) (hf : s.flag j = true)
    (q : Request) : takeRun q s = s.answer q stFaulted [2#8] := by
  have set : s.disarmKindSet = true := by
    simp only [State.disarmKindSet, List.any_eq_true, List.mem_finRange, true_and]
    exact ⟨j, by rw [hj, hf]; rfl⟩
  have two : byteOf 2 = [2#8] := by decide
  simp only [takeRun, State.runFaulted, he, set, decide_true, Bool.and_self, if_true, EngineState.code, two]

theorem cleanup_withAgent (s : State) (a : Agent) : (s.withAgent a).cleanup = s.cleanup.withAgent a := by
  by_cases h : s.engine = .disarmed <;> simp [State.cleanup, h] <;> rfl

theorem stopEngine_of_not_running (h : s.engine ≠ .running) : s.stopEngine = s.withEngine .stopped := by
  unfold State.stopEngine
  split
  · rename_i running; exact absurd running h
  · rfl
  · rename_i stopped; rw [← stopped]; rfl

theorem stopEngine_of_running (h : s.engine = .running) : s.stopEngine = (s.withEngine .stopped).cleanup := by
  simp [State.stopEngine, h, settle]

theorem stopEngine_withAgent (s : State) (a : Agent) : (s.withAgent a).stopEngine = s.stopEngine.withAgent a := by
  by_cases h : s.engine = .running
  · rw [stopEngine_of_running h, stopEngine_of_running (s := s.withAgent a) h, withEngine_withAgent, cleanup_withAgent]
  · rw [stopEngine_of_not_running h, stopEngine_of_not_running (s := s.withAgent a) h, withEngine_withAgent]

theorem engine_stopEngine (s : State) : s.stopEngine.engine = .stopped := by
  by_cases h : s.engine = .running
  · rw [stopEngine_of_running h]; simp
  · rw [stopEngine_of_not_running h]; rfl

theorem takeEnable_of_disarmed (h : s.engine = .disarmed) (q : Request) : takeEnable q s = s.answer q stFaulted [] := by
  simp [takeEnable, h]

/-- TRIGGER_ENABLE and TRIGGER_DISABLE, taken (R17). -/
theorem takeArm {armed : Bool} (h : take = takeEnable ∧ armed = true ∧ s.engine ≠ .disarmed ∨ take = takeDisable ∧ armed = false) :
    take q s = (s.setTriggers q.triggerSet armed).answer q stOk [] := by
  obtain ⟨rfl, rfl, h⟩ | ⟨rfl, rfl⟩ := h
  · simp [takeEnable, h]
  · rfl

theorem triggers_setTriggers {l : List Nat} (h : readTriggerSet q.body = some l) (armed : Bool) (i : Fin 48) :
    (s.setTriggers q.triggerSet armed).triggers.get i
      = if (s.banks.active.triggers.get i).valid = true ∧ i.val ∈ l then { s.triggers.get i with armed := armed }
        else s.triggers.get i := by
  simp [State.setTriggers, Request.triggerSet, h]

/-- Whether RUNTIME_READ's unit, first index and count are in range (R175). -/
theorem runtimeOk_iff (n first count : Nat) : runtimeOk n first count = true ↔ (1 ≤ count ∧ count ≤ 8) ∧ first + count ≤ n := by
  simp [runtimeOk, within]

theorem answerRuntime_ok {x first count : Byte} {n : Nat} (hb : q.body = [x, first, count]) (hn : unitSize x.toNat = some n)
    (lo : 1 ≤ count.toNat) (hi : count.toNat ≤ 8) (fits : first.toNat + count.toNat ≤ n) :
    answerRuntime q s = s.answer q stOk (s.runtimeBody x.toNat first.toNat count.toNat) := by
  have ok : runtimeOk n first.toNat count.toNat = true := (runtimeOk_iff _ _ _).mpr ⟨⟨lo, hi⟩, fits⟩
  simp [answerRuntime, hb, hn, ok]

/-! Claims by the holder, taken at once. -/

/-- The four claims without a body. -/
theorem bareClaim_row (h : s.ReadyHeld q rest k) (hk : knownKind k = true) (hb : q.body = []) :
    serve (ofKind k.toNat) always (bare (claim take)) s = claim take q (s.inHand rest) := by
  rw [held_row h hk, bare_of_nil hb]

theorem claim_inHand (free : s.ClaimFree) : claim take q (s.inHand rest) = take q (s.inHand rest) :=
  claim_free (s := s.inHand rest) ⟨free.between, free.alone⟩

/-- A claim without a body, taken at once. -/
theorem freeClaim_row (h : s.ReadyHeld q rest k) (hk : knownKind k = true) (hb : q.body = []) (free : s.ClaimFree) :
    serve (ofKind k.toNat) always (bare (claim take)) s = take q (s.inHand rest) := by
  rw [bareClaim_row h hk hb, claim_inHand free]

theorem claim_of_midFiring (mid : s.midFiring = true) : claim take q s = s.waitFor q := by simp [claim, mid]

/-- A claim of the holder inside a firing waits, its lease restarted (R17, R167). -/
theorem claim_inHand_waits (mid : s.midFiring = true) : claim take q (s.inHand rest) = s.withAgent
    { s.agent with inbox := rest, session := s.agent.session.map Session.restart, hold := some q } :=
  claim_of_midFiring (s := s.inHand rest) mid

/-! Claims that have waited. -/

/-- A request that is no COMMIT waits on through a step of the burst. -/
theorem hold_burstWork (held : s.agent.hold = some q) (hk : q.kind? ≠ some 0x06#8) : s.burstWork.agent.hold = some q := by
  obtain keeps | ⟨u, keeps, work⟩ := burstWork_cases s
  · exact keeps.hold.trans held
  · have still : u.agent.hold = some q := keeps.hold.trans held
    rw [work]
    obtain ⟨same, -⟩ | ⟨r, hr, -⟩ := finishHeld_cases u
    · rw [same]; exact still
    · unfold State.finishHeld
      simp [still, hk]

/-- The claim that has waited, taken where no broadcast stop waits. -/
theorem serveClaims_of_held (held : u.agent.hold = some q) (hk : q.kind? = some k) (hc : claimOf k = some take)
    (mid : u.midFiring = false) (alone : u.agent.stopClaim = false) : u.serveClaims = take q u.unhold := by
  simp [State.serveClaims, mid, alone, State.takeStopClaim, State.takeHeld, held, hk, hc]

/-- The claim that has waited, and a broadcast stop with it, in either order. -/
theorem serveClaims_of_both (held : u.agent.hold = some q) (mid : u.midFiring = false) (stop : u.agent.stopClaim = true) :
    ∃ v, u.serveClaims = v.spend ∧ (v = u.takeStopClaim.takeHeld ∨ v = u.takeHeld.takeStopClaim) := by
  simp only [State.serveClaims, mid, stop, held, Option.isSome_some, Bool.and_self, Bool.false_eq_true, if_false, if_true,
    State.withStopClaim]
  split
  · exact ⟨_, rfl, .inl rfl⟩
  · exact ⟨_, rfl, .inr rfl⟩

theorem takeHeld_of_claim (held : u.agent.hold = some q) (hk : q.kind? = some k) (hc : claimOf k = some take) :
    u.takeHeld = take q u.unhold := by
  simp [State.takeHeld, held, hk, hc]

theorem takeStopClaim_of_stop (stop : u.agent.stopClaim = true) :
    u.takeStopClaim = (u.withAgent { u.agent with stopClaim := false }).stopEngine := by
  simp [State.takeStopClaim, stop]

theorem stopClaim_answer (s : State) (q : Request) (status : Byte) (body : List Byte) :
    (s.answer q status body).agent.stopClaim = s.agent.stopClaim := by
  obtain ⟨r, c, h⟩ := agent_answer s q status body
  rw [h]

/-- CONFIG_CLEAR empties the banks, resets and accepts the input changes that are due; no edge is owed to a trigger. -/
theorem configClear_eq (s : State) : ∃ f, s.configClear
    = (((s.withBanks s.banks.clear).engineReset).withInputs (s.inputs.mapIdx fun k r =>
        if (s.withBanks s.banks.clear).engineReset.inputDue k then r.accept else r)).withFreeIdx f := by
  let v := (s.withBanks s.banks.clear).engineReset
  have empty : v.banks.active = Bank.empty := by
    show (Banks.afterReset _).active = _
    unfold Banks.afterReset
    split <;> rfl
  have intake : v.intake = [] := rfl
  obtain ⟨i, f, h, calm⟩ := acceptDue_room (s := v) (by simp [intake])
  have none_ (k : Fin 4) : v.inputWatched k = false := by
    have invalid (j : Fin 48) : (Bank.empty.triggers.get j).valid = false := by simp [Bank.empty]
    simp [State.inputWatched, empty, invalid]
  refine ⟨f, ?_⟩
  show v.acceptDue = _
  rw [h, calm none_]
  rfl

theorem active_configClear (s : State) : s.configClear.banks.active = Bank.empty := by
  obtain ⟨f, h⟩ := configClear_eq s
  rw [h]
  show (Banks.afterReset _).active = _
  unfold Banks.afterReset
  split <;> rfl

theorem engine_configClear (s : State) : s.configClear.engine = .stopped := by
  obtain ⟨f, h⟩ := configClear_eq s
  rw [h]; rfl

/-- A claim leaves the broadcast stop that waits, and a STOPPED engine unless it is ENGINE_RUN. -/
theorem claim_leaves (hc : claimOf k = some take) (q : Request) (s : State) :
    (take q s).agent.stopClaim = s.agent.stopClaim ∧ (k ≠ 0x08#8 → s.engine = .stopped → (take q s).engine = .stopped) := by
  have ans (u : State) (agent : u.agent = s.agent) (engine : k ≠ 0x08#8 → s.engine = .stopped → u.engine = .stopped)
      (status : Byte) (body : List Byte) : (u.answer q status body).agent.stopClaim = s.agent.stopClaim
        ∧ (k ≠ 0x08#8 → s.engine = .stopped → (u.answer q status body).engine = .stopped) :=
    ⟨by rw [stopClaim_answer, agent], engine⟩
  unfold claimOf at hc
  split at hc <;> cases hc
  · rename_i code
    have run : k = 0x08#8 := BitVec.eq_of_toNat_eq code
    unfold takeRun
    split
    · exact ans s rfl (fun ne => absurd run ne) _ _
    · exact ans (s.withEngine .running) rfl (fun ne => absurd run ne) _ _
  · exact ans s.stopEngine (by simp) (fun _ _ => engine_stopEngine s) _ _
  · exact ans s.engineReset (by simp) (fun _ _ => rfl) _ _
  · exact ans s.configClear (by simp) (fun _ _ => engine_configClear s) _ _
  · unfold takeEnable
    split
    · exact ans s rfl (fun _ h => h) _ _
    · exact ans (s.setTriggers _ _) rfl (fun _ h => h) _ _
  · exact ans (s.setTriggers _ _) rfl (fun _ h => h) _ _
  · unfold answerRuntime
    split
    · split
      · exact ans s rfl (fun _ h => h) _ _
      · split <;> exact ans s rfl (fun _ h => h) _ _
    · exact ans s rfl (fun _ h => h) _ _

/-- The claim that has waited and the broadcast stop, whichever comes first. -/
theorem serveClaims_both_outcome (held : u.agent.hold = some q) (hk : q.kind? = some k) (hc : claimOf k = some take)
    (mid : u.midFiring = false) (stop : u.agent.stopClaim = true) :
    u.serveClaims.agent.hold = none ∧ u.serveClaims.agent.stopClaim = false
      ∧ u.serveClaims.agent.responses.length = u.agent.responses.length + 1
      ∧ (k ≠ 0x08#8 → u.serveClaims.engine = .stopped) := by
  obtain ⟨v, hv, hu⟩ := serveClaims_of_both held mid stop
  rw [hv, State.spend_agent, State.spend_engine]
  obtain rfl | rfl := hu
  · have keeps := takeStopClaim_keepsWaiting u
    have first : u.takeStopClaim.engine = .stopped := by rw [takeStopClaim_of_stop stop]; exact engine_stopEngine _
    rw [takeHeld_of_claim (keeps.hold.trans held) hk hc]
    have a := answers_claimOf hc q u.takeStopClaim.unhold
    have leaves := claim_leaves hc q u.takeStopClaim.unhold
    refine ⟨a.hold, leaves.1.trans (stopClaim_takeStopClaim u), ?_, fun ne => leaves.2 ne first⟩
    exact a.responses.trans (by rw [← keeps.responses]; rfl)
  · rw [takeHeld_of_claim held hk hc]
    have a := answers_claimOf hc q u.unhold
    have leaves := claim_leaves hc q u.unhold
    have still : (take q u.unhold).agent.stopClaim = true := leaves.1.trans stop
    have keeps := takeStopClaim_keepsWaiting (take q u.unhold)
    refine ⟨keeps.hold.trans a.hold, stopClaim_takeStopClaim _, ?_, fun _ => ?_⟩
    · rw [keeps.responses]; exact a.responses
    · rw [takeStopClaim_of_stop still]; exact engine_stopEngine _

/-- Settles O46: the claims at once by what each does, inside a firing by waiting, and the step that takes what has waited. -/
theorem engineRunAndStop : Obligations.EngineRunAndStop := by
  refine ⟨fun s q rest hb => ⟨fun free => ⟨fun h ok => ?run, fun h j he hj hf => ?faulted, fun h off => ?stop,
    fun h on => ?stopRunning⟩, fun mid c k hc h => ?waits⟩, fun s q k held hk ne => ?waited⟩
  case run =>
    have row : exec .engineRun s = .next (takeRun q (s.inHand rest)) := congrArg _ (freeClaim_row h (by decide) hb free)
    rw [row, takeRun_of_free (s := s.inHand rest) ok]
    exact congrArg _ (answer_held h (by decide) _ (by rfl) (by rfl) _ _)
  case faulted =>
    have row : exec .engineRun s = .next (takeRun q (s.inHand rest)) := congrArg _ (freeClaim_row h (by decide) hb free)
    rw [row, takeRun_of_faulted (s := s.inHand rest) he hj hf, answer_inHand h (by decide)]
  case stop =>
    have row : exec .engineStop s = .next (takeStop q (s.inHand rest)) := congrArg _ (freeClaim_row h (by decide) hb free)
    rw [row, takeStop, stopEngine_of_not_running (s := s.inHand rest) off]
    exact congrArg _ (answer_held h (by decide) _ (by rfl) (by rfl) _ _)
  case stopRunning =>
    have row : exec .engineStop s = .next (takeStop q (s.inHand rest)) := congrArg _ (freeClaim_row h (by decide) hb free)
    have stopped : takeStop q (s.inHand rest) = ((s.inHand rest).withEngine .stopped).cleanup.withAgent
        (s.agent.servedHolder rest (s.responseTo q stOk [])) := by
      rw [takeStop, stopEngine_of_running (s := s.inHand rest) on]
      exact answer_holder h (by decide) (by simp) _ _
    rw [row, stopped]
    refine ⟨_, rfl, ?_, rfl, ?_, fun k => ?_, fun k => ?_, fun i => ?_, fun j => ?_, fun b hburst => ?_, ?_, ?_, ?_, ?_, ?_⟩
    case refine_7 =>
      have interrupted : s.burst.map Burst.interrupt = some b := by simpa using hburst
      obtain ⟨c, -, rfl⟩ := Option.map_eq_some_iff.mp interrupted
      exact ⟨rfl, rfl⟩
    all_goals simp [TrainRt.halt, TimerRt.halt]
  case waits =>
    simp only [List.mem_cons, Prod.mk.injEq, List.not_mem_nil, or_false] at hc
    obtain ⟨rfl, rfl⟩ | ⟨rfl, rfl⟩ | ⟨rfl, rfl⟩ | ⟨rfl, rfl⟩ := hc <;>
      exact congrArg _ ((bareClaim_row h (by decide) hb).trans (claim_inHand_waits mid))
  case waited =>
    have holds : s.burstWork.agent.hold = some q := hold_burstWork held (by simpa [hk] using ne)
    dsimp only
    generalize hu : s.burstWork = u at holds
    have step : s.burstStep = u.serveClaims := by rw [← hu]; rfl
    rw [step]
    refine ⟨fun mid => by simp [State.serveClaims, mid], fun mid alone => ?_, fun mid stop hk7 => ?_⟩
    · have taken {take : Request → State → State} (hc : claimOf k = some take) : u.serveClaims = take q u.unhold :=
        serveClaims_of_held holds hk hc mid alone
      have ans {t : State} (hc : k ≠ 0x02#8) (ht : t.agent = { u.agent with hold := none }) (status : Byte) (body : List Byte) :
          t.answer q status body = t.withAgent (u.agent.servedWaiting q (u.responseTo q status body)) :=
        answer_waiting hk hc u.agent u t ht status body
      refine ⟨fun hk8 ok => ?_, fun j hk8 he hj hf => ?_, fun hk9 => ?_, fun hkA => ?_, fun hkB => ?_, fun hkC off => ?_,
        fun armed harm l hl => ?_, fun first count hkF hbody lo hi fits => ?_⟩
      · subst hk8
        rw [taken rfl, takeRun_of_free (s := u.unhold) ok, ans (by decide) rfl]
        rfl
      · subst hk8
        rw [taken rfl, takeRun_of_faulted (s := u.unhold) he hj hf, ans (by decide) rfl]
        rfl
      · subst hk9
        rw [taken rfl, takeStop, ans (by decide) (State.stopEngine_agent u.unhold)]
        exact ⟨by rw [State.unhold, stopEngine_withAgent]; rfl, engine_stopEngine _⟩
      · subst hkA
        rw [taken rfl, takeReset, ans (by decide) (State.engineReset_agent u.unhold)]
        rfl
      · subst hkB
        rw [taken rfl, takeClear, ans (by decide) (State.configClear_agent u.unhold)]
        exact ⟨rfl, engine_configClear _, active_configClear _⟩
      · subst hkC
        rw [taken rfl, takeEnable_of_disarmed (s := u.unhold) off, ans (by decide) rfl]
        rfl
      · obtain ⟨take, hc, harm⟩ : ∃ take, claimOf k = some take
            ∧ (take = takeEnable ∧ armed = true ∧ u.unhold.engine ≠ .disarmed ∨ take = takeDisable ∧ armed = false) := by
          obtain ⟨rfl, rfl, on⟩ | ⟨rfl, rfl⟩ := harm
          · exact ⟨takeEnable, rfl, .inl ⟨rfl, rfl, on⟩⟩
          · exact ⟨takeDisable, rfl, .inr ⟨rfl, rfl⟩⟩
        rw [taken hc, takeArm harm, ans (by rintro rfl; cases hc) rfl]
        exact ⟨rfl, fun i => triggers_setTriggers (s := u.unhold) hl armed i⟩
      · subst hkF
        rw [taken rfl, answerRuntime_ok hbody (n := 48) rfl lo hi (by simpa using fits), ans (by decide) rfl]
        rfl
    · have listed : k ∈ [0x06#8, 0x08#8, 0x09#8, 0x0A#8, 0x0B#8, 0x0C#8, 0x0D#8, 0x0F#8] := List.mem_cons_of_mem _ hk7
      obtain ⟨take, hc⟩ := Option.ne_none_iff_exists'.mp (claimOf_ne_none listed ne)
      exact serveClaims_both_outcome holds hk hc mid stop

end Sys2Proof.Machine
end

section
/-! SUPPORT. The statements about the reads by entry, the resets and the requests that name triggers. -/

namespace Sys2Proof.Machine

variable {s t u : State} {q : Request} {rest : List Request} {k : Byte} {take run : Request → State → State}

/-! Reads. -/

theorem tableRead_ok {x code first count : Byte} {t : TableId} (hb : q.body = [x, code, first, count]) (hx : x.toNat ≤ 1)
    (hc : TableId.ofCode code = some t) (lo : 1 ≤ count.toNat) (hi : count.toNat ≤ 8)
    (fits : first.toNat + count.toNat ≤ t.size) : readTable q s = s.answer q stOk ((List.range count.toNat).flatMap fun k =>
      (if x = 0#8 then s.banks.active else s.banks.staging).read t (first.toNat + k)) := by
  have bank : ¬ 1 < x.toNat := by omega
  have range : (within 1 8 count.toNat && decide (first.toNat + count.toNat ≤ t.size)) = true := by
    simp [within, lo, hi, fits]
  simp only [readTable, hb, hc, bank, range, if_false, if_true]

/-- A RUNTIME_READ reads trigger runtime when its unit is the triggers and it passes its checks (R22, R175). -/
theorem readsTriggers_of_body {x first count : Byte} (hb : q.body = [x, first, count]) :
    q.readsTriggers = (x.toNat == 3 && runtimeOk 48 first.toNat count.toNat) := by
  simp [Request.readsTriggers, hb]

theorem readRuntime_now (h : q.readsTriggers = false ∨ s.ClaimFree) : readRuntime q s = answerRuntime q s := by
  unfold readRuntime
  obtain h | free := h
  · simp [h]
  · rw [claim_free free]; simp

theorem runtimeRead_row (h : s.Ready q rest 0x0F#8) : exec .runtimeRead s = .next (readRuntime q (s.inOpenHand rest)) :=
  congrArg _ (open_row h (by decide))

/-- Settles O42: each read by its checks, and a read of triggers by the claim that it makes. -/
theorem tableAndRuntimeReadsAnswer : Obligations.TableAndRuntimeReadsAnswer := by
  refine ⟨fun s q rest x first count lo hi =>
      ⟨fun code t h hb hx hc fits => ?table, fun n h hb hn fits free => ?runtime, fun h hb fits mid => ?waits⟩,
    fun s q rest x first count h hb => ⟨fun none_ => ?noUnit, fun n hn out => ?range⟩⟩
  case table =>
    have row : exec .tableRead s = .next (readTable q (s.inOpenHand rest)) := congrArg _ (open_row h (by decide))
    rw [row, tableRead_ok hb hx hc lo hi fits, answer_inOpenHand h (by decide)]
    rfl
  case runtime =>
    have now : q.readsTriggers = false ∨ (s.inOpenHand rest).ClaimFree := by
      obtain ne | free := free
      · have other : x.toNat ≠ 3 := fun e => ne (BitVec.eq_of_toNat_eq e)
        exact .inl (by simp [readsTriggers_of_body hb, other])
      · exact .inr ⟨free.between, free.alone⟩
    rw [runtimeRead_row h, readRuntime_now now, answerRuntime_ok hb hn lo hi fits, answer_inOpenHand h (by decide)]
    rfl
  case waits =>
    have reads : q.readsTriggers = true := by
      rw [readsTriggers_of_body hb, (runtimeOk_iff _ _ _).mpr ⟨⟨lo, hi⟩, fits⟩]; rfl
    rw [runtimeRead_row h, readRuntime, if_pos reads, claim_of_midFiring (s := s.inOpenHand rest) mid]
    rfl
  case noUnit =>
    have other : q.readsTriggers = false := by
      have : x.toNat ≠ 3 := fun e => by rw [e] at none_; cases none_
      simp [readsTriggers_of_body hb, this]
    have bad : answerRuntime q (s.inOpenHand rest) = (s.inOpenHand rest).answer q stMalformed [] := by
      simp [answerRuntime, hb, none_]
    rw [runtimeRead_row h, readRuntime_now (.inl other), bad, answer_inOpenHand h (by decide)]
  case range =>
    have fails : runtimeOk n first.toNat count.toNat = false := by
      rw [Bool.eq_false_iff, ne_eq, runtimeOk_iff]; omega
    have other : q.readsTriggers = false := by
      rw [readsTriggers_of_body hb]
      by_cases three : x.toNat = 3
      · rw [three] at hn
        obtain rfl : 48 = n := by simpa [unitSize] using hn
        rw [fails, Bool.and_false]
      · simp [three]
    have bad : answerRuntime q (s.inOpenHand rest) = (s.inOpenHand rest).answer q stRange [] := by
      simp [answerRuntime, hb, hn, fails]
    rw [runtimeRead_row h, readRuntime_now (.inl other), bad, answer_inOpenHand h (by decide)]

/-! Resets. -/

/-- What an engine reset makes of the part, by Figure 10-3; `s` is the state that is reset. -/
structure State.ResetFrom (s t : State) : Prop where
  engine : t.engine = .stopped
  intake : t.intake = []
  burst : t.burst = none
  forward : t.forward = { s.forward with frames := s.forward.frames.map fun f =>
    if f.id ∈ s.heldIds then { f with held := false } else f }
  report : t.report = s.report.afterReset t.banks.active.settings
  faults : ∀ k, t.faults.get k = ⟨false, (s.faults.get k).raises⟩
  channels : ∀ i, t.channels.get i = {}
  trains : ∀ k, t.trains.get k = {}
  timers : ∀ k, t.timers.get k = {}
  outputs : ∀ j, t.outputs.get j = {}
  watches : ∀ i, t.watches.get i = (t.banks.active.watches.get i).start
  triggers : ∀ i, t.triggers.get i = (t.banks.active.triggers.get i).start false
  patches : ∀ i, t.patches.get i = {}
  counters : t.counters = s.counters
  now : t.now = s.now
  tracker : t.tracker = s.tracker
  link : t.link = s.link

theorem active_afterReset (k : Banks) : k.afterReset.active = k.active := by unfold Banks.afterReset; split <;> rfl

theorem active_engineReset (s : State) : s.engineReset.banks.active = s.banks.active := active_afterReset _

theorem report_engineReset (s : State) : s.engineReset.report = s.report.afterReset s.banks.active.settings := rfl

theorem engineReset_resets (s : State) : s.ResetFrom s.engineReset where
  engine := rfl
  intake := rfl
  burst := rfl
  forward := (forward_engineReset s).trans (forward_releaseAll s)
  report := by rw [active_engineReset, report_engineReset]
  faults k := Tab.get_map _ _ k
  channels i := Tab.get_replicate _ i
  trains k := Tab.get_replicate _ k
  timers k := Tab.get_replicate _ k
  outputs j := Tab.get_replicate _ j
  watches i := by rw [active_engineReset]; exact Tab.get_ofFn _ i
  triggers i := by rw [active_engineReset]; exact Tab.get_ofFn _ i
  patches i := Tab.get_replicate _ i
  counters := State.engineReset_counters s
  now := State.engineReset_now s
  tracker := State.engineReset_tracker s
  link := State.engineReset_link s

theorem State.ResetFrom.withAgent (r : s.ResetFrom t) (a : Agent) : s.ResetFrom (t.withAgent a) :=
  ⟨r.engine, r.intake, r.burst, r.forward, r.report, r.faults, r.channels, r.trains, r.timers, r.outputs, r.watches, r.triggers,
    r.patches, r.counters, r.now, r.tracker, r.link⟩

theorem State.ResetFrom.of_withAgent {a : Agent} (r : (s.withAgent a).ResetFrom t) : s.ResetFrom t :=
  ⟨r.engine, r.intake, r.burst, r.forward, r.report, r.faults, r.channels, r.trains, r.timers, r.outputs, r.watches, r.triggers,
    r.patches, r.counters, r.now, r.tracker, r.link⟩

theorem configClear_resets (s : State) : s.ResetFrom s.configClear := by
  obtain ⟨f, h⟩ := configClear_eq s
  have r := engineReset_resets (s.withBanks s.banks.clear)
  rw [h]
  exact ⟨r.engine, r.intake, r.burst, r.forward, r.report, r.faults, r.channels, r.trains, r.timers, r.outputs, r.watches,
    r.triggers, r.patches, r.counters, r.now, r.tracker, r.link⟩

theorem banks_engineReset (s : State) : s.engineReset.banks = s.banks.afterReset := rfl

theorem banks_configClear (s : State) : s.configClear.banks = s.banks.clear.afterReset := by
  obtain ⟨f, h⟩ := configClear_eq s
  rw [h]; rfl

/-- Under the empty banks every filter is 0, so each pending change is accepted (R105, R151). -/
theorem inputs_configClear (s : State) (k : Fin 4) :
    ((s.inputs.get k).since = none → s.configClear.inputs.get k = s.inputs.get k)
    ∧ ∀ m, (s.inputs.get k).since = some m → m ≤ s.now → s.configClear.inputs.get k = (s.inputs.get k).accept := by
  obtain ⟨f, h⟩ := configClear_eq s
  have empty : (s.withBanks s.banks.clear).engineReset.banks.active = Bank.empty := active_afterReset _
  have inputs : (s.withBanks s.banks.clear).engineReset.inputs = s.inputs := State.engineReset_inputs _
  have now : (s.withBanks s.banks.clear).engineReset.now = s.now := State.engineReset_now _
  generalize (s.withBanks s.banks.clear).engineReset = v at h empty inputs now
  have filter : (v.banks.active.inputs.get k).filter = 0 := by simp [empty, Bank.empty]
  have got : s.configClear.inputs.get k = if v.inputDue k then (s.inputs.get k).accept else s.inputs.get k := by
    rw [h]; simp
  refine ⟨fun none_ => ?_, fun m some_ le => ?_⟩
  · have still : v.inputDue k = false := by simp [State.inputDue, inputs, none_]
    simp [got, still]
  · have due : v.inputDue k = true := by simp [State.inputDue, inputs, some_, filter, now, le]
    simp [got, due]

theorem afterReset_commit (k : Banks) :
    (k.commitPending = true → k.afterReset.outcome = some .cancelled ∧ k.afterReset.commitPending = false)
    ∧ (k.commitPending = false → k.afterReset.outcome = k.outcome ∧ k.afterReset.commitPending = false) := by
  unfold Banks.afterReset
  refine ⟨fun h => by rw [if_pos h]; exact ⟨rfl, rfl⟩, fun h => by rw [if_neg (ne_true_of_eq_false h)]; exact ⟨rfl, h⟩⟩

theorem afterReset_keeps (k : Banks) : k.afterReset.active = k.active ∧ k.afterReset.staging = k.staging
    ∧ k.afterReset.generation = k.generation := by
  unfold Banks.afterReset
  split <;> exact ⟨rfl, rfl, rfl⟩

theorem mem_heldIds (s : State) (n : Nat) :
    n ∈ s.heldIds ↔ n ∈ s.intake.filterMap Event.frameId ∨ s.burst.bind Burst.frame = some n := by
  simp [State.heldIds]

/-- Settles O47: both requests reset the engine, and CONFIG_CLEAR empties the banks before and accepts input changes after. -/
theorem engineResetAndConfigClear : Obligations.EngineResetAndConfigClear := by
  intro s q rest c hb free hc
  obtain ⟨t, row, r, agent, alone, clear, pending, idle⟩ : ∃ t, exec c s = .next t ∧ s.ResetFrom t
      ∧ t.agent = s.agent.servedHolder rest (s.responseTo q stOk [])
      ∧ (c = .engineReset → t.banks.active = s.banks.active ∧ t.banks.staging = s.banks.staging
        ∧ t.banks.generation = s.banks.generation ∧ t.inputs = s.inputs)
      ∧ (c = .configClear → t.banks.active = Bank.empty ∧ t.banks.staging = Bank.empty ∧ t.banks.generation = 0
        ∧ ∀ k, ((s.inputs.get k).since = none → t.inputs.get k = s.inputs.get k)
          ∧ ∀ m, (s.inputs.get k).since = some m → m ≤ s.now → t.inputs.get k = (s.inputs.get k).accept)
      ∧ (s.banks.commitPending = true → t.banks.outcome = some .cancelled ∧ t.banks.commitPending = false)
      ∧ (s.banks.commitPending = false → t.banks.outcome = s.banks.outcome ∧ t.banks.commitPending = false) := by
    obtain ⟨rfl, h⟩ | ⟨rfl, h⟩ := hc
    · have row : exec .engineReset s = .next (takeReset q (s.inHand rest)) :=
        congrArg Host.Outcome.next (freeClaim_row (take := takeReset) h (by decide) hb free)
      rw [row, takeReset, answer_holder h (by decide) (State.engineReset_agent _)]
      have keeps := afterReset_keeps s.banks
      have commit := afterReset_commit s.banks
      have banks : (s.inHand rest).engineReset.banks = s.banks.afterReset := banks_engineReset _
      have inputs : (s.inHand rest).engineReset.inputs = s.inputs := State.engineReset_inputs _
      rw [← banks] at keeps commit
      exact ⟨_, rfl, (engineReset_resets (s.inHand rest)).of_withAgent.withAgent _, rfl,
        fun _ => ⟨keeps.1, keeps.2.1, keeps.2.2, inputs⟩, fun other => (by cases other), commit.1, commit.2⟩
    · have row : exec .configClear s = .next (takeClear q (s.inHand rest)) :=
        congrArg Host.Outcome.next (freeClaim_row (take := takeClear) h (by decide) hb free)
      rw [row, takeClear, answer_holder h (by decide) (State.configClear_agent _)]
      have keeps := afterReset_keeps s.banks.clear
      have commit := afterReset_commit s.banks.clear
      have banks : (s.inHand rest).configClear.banks = s.banks.clear.afterReset := banks_configClear _
      rw [← banks] at keeps commit
      exact ⟨_, rfl, (configClear_resets (s.inHand rest)).of_withAgent.withAgent _, rfl, fun other => (by cases other),
        fun _ => ⟨keeps.1, keeps.2.1, keeps.2.2, inputs_configClear (s.inHand rest)⟩, commit.1, commit.2⟩
  have watches (i : Fin 64) : t.watches.get i = (t.banks.active.watches.get i).start := r.watches i
  have triggers (i : Fin 48) : t.triggers.get i
      = { armed := (t.banks.active.triggers.get i).valid && (t.banks.active.triggers.get i).startsArmed } := by
    rw [r.triggers i]; simp [TriggerEntry.start]
  have forward : t.forward = { s.forward with
      frames := s.forward.frames.map fun f => if f.id ∈ s.intake.filterMap Event.frameId ∨ s.burst.bind Burst.frame = some f.id
        then { f with held := false } else f } := by
    rw [r.forward]; simp only [mem_heldIds]
  exact ⟨t, row, r.engine, r.intake, r.burst, forward, by rw [r.report]; rfl, by rw [r.report]; rfl, by rw [r.report]; rfl,
    by rw [r.report]; rfl, by rw [r.report]; rfl, by rw [r.report]; rfl, by rw [r.report]; rfl, by rw [r.report]; rfl,
    by rw [r.report]; rfl, r.faults, r.channels, r.trains, r.timers, r.outputs, watches, triggers, r.patches, r.counters, r.now,
    r.tracker, r.link, agent, alone, clear, pending, idle⟩

/-! Sets of triggers. -/

theorem getLsbD_setOf {l : List Nat} (i : Fin 48) : (setOf l).getLsbD i = true ↔ i.val ∈ l := by
  suffices H : ∀ v : BitVec 48, (l.foldl (fun v j => v ||| BitVec.twoPow 48 j) v).getLsbD i = (v.getLsbD i || l.contains i.val) by
    unfold setOf
    rw [H]
    simp
  induction l with
  | nil => intro v; simp
  | cons j l ih =>
    intro v
    rw [List.foldl_cons, ih]
    have hi : i.val < 48 := i.isLt
    by_cases h : j = i.val <;> simp [h, hi, Ne.symm]

theorem triggerSetOk_of {l : List Nat} (lo : 1 ≤ l.length) (hi : l.length ≤ 48) (h : ∀ i ∈ l, i < 48) : triggerSetOk l = true := by
  simp [triggerSetOk, within, lo, hi]
  exact h

theorem triggerSet_row {l : List Nat} (h : s.ReadyHeld q rest k) (hk : knownKind k = true) (hl : readTriggerSet q.body = some l)
    (ok : triggerSetOk l = true) :
    serve (ofKind k.toNat) always (withTriggerSet run) s = run q (s.inHand rest) := by
  rw [held_row h hk]
  simp [withTriggerSet, hl, ok]

theorem triggerSet_range_row {l : List Nat} (h : s.ReadyHeld q rest k) (hk : knownKind k = true) (hk2 : k ≠ 0x02#8)
    (hl : readTriggerSet q.body = some l) (out : triggerSetOk l = false) :
    serve (ofKind k.toNat) always (withTriggerSet run) s
      = s.withAgent (s.agent.servedHolder rest (s.responseTo q stRange [])) := by
  rw [held_row h hk]
  simp [withTriggerSet, hl, out, answer_inHand h hk2]

/-- Settles O48: the set by its range, the claims by what each does, TRIGGER_FIRE by engine and queue. -/
theorem triggerRequests : Obligations.TriggerRequests := by
  refine ⟨fun s q rest l hl lo hi below => ?_, fun s q rest l hl ⟨i, hi, big⟩ c k hc h => ?range⟩
  case range =>
    have out : triggerSetOk l = false := by
      have : ¬ i < 48 := by omega
      simp only [triggerSetOk, Bool.and_eq_false_iff, List.all_eq_false]
      exact .inr ⟨i, hi, by simp [this]⟩
    simp only [List.mem_cons, Prod.mk.injEq, List.not_mem_nil, or_false] at hc
    obtain ⟨rfl, rfl⟩ | ⟨rfl, rfl⟩ | ⟨rfl, rfl⟩ := hc <;>
      exact congrArg _ (triggerSet_range_row h (by decide) (by decide) hl out)
  have ok := triggerSetOk_of lo hi below
  have set : q.triggerSet = l := by simp [Request.triggerSet, hl]
  have row {k : Byte} {run : Request → State → State} (h : s.ReadyHeld q rest k) (hk : knownKind k = true) :
      serve (ofKind k.toNat) always (withTriggerSet run) s = run q (s.inHand rest) := triggerSet_row h hk hl ok
  refine ⟨fun h free on => ?enable, fun h free off => ?refused, fun h free => ?disable, fun c k hc mid h => ?waits,
    fun h on room => ?fire, fun h off => ?wrong, fun h on full => ?full⟩
  case enable =>
    have taken : exec .triggerEnable s = .next (takeEnable q (s.inHand rest)) := by
      rw [← claim_inHand (take := takeEnable) free]; exact congrArg _ (row h (by decide))
    rw [taken, takeArm (s := s.inHand rest) (.inl ⟨rfl, rfl, on⟩), answer_holder h (by decide) rfl]
    exact ⟨_, rfl, rfl, fun i => triggers_setTriggers (s := s.inHand rest) hl true i⟩
  case refused =>
    have taken : exec .triggerEnable s = .next (takeEnable q (s.inHand rest)) := by
      rw [← claim_inHand (take := takeEnable) free]; exact congrArg _ (row h (by decide))
    rw [taken, takeEnable_of_disarmed (s := s.inHand rest) off, answer_inHand h (by decide)]
  case disable =>
    have taken : exec .triggerDisable s = .next (takeDisable q (s.inHand rest)) := by
      rw [← claim_inHand (take := takeDisable) free]; exact congrArg _ (row h (by decide))
    rw [taken, takeArm (s := s.inHand rest) (.inr ⟨rfl, rfl⟩), answer_holder h (by decide) rfl]
    exact ⟨_, rfl, rfl, fun i => triggers_setTriggers (s := s.inHand rest) hl false i⟩
  case waits =>
    simp only [List.mem_cons, Prod.mk.injEq, List.not_mem_nil, or_false] at hc
    obtain ⟨rfl, rfl⟩ | ⟨rfl, rfl⟩ := hc <;> exact congrArg _ ((row h (by decide)).trans (claim_inHand_waits mid))
  case fire =>
    have fired : exec .triggerFire s = .next (fireTriggers q (s.inHand rest)) := congrArg _ (row h (by decide))
    refine ⟨setOf l, fun i => getLsbD_setOf i, ?_⟩
    rw [fired]
    have space : (s.inHand rest).intake.length < Config.intakeSize := room
    simp only [fireTriggers, State.engine_withAgent, on, ne_eq, not_true_eq_false, if_false, space, if_true, set]
    exact congrArg _ (answer_held h (by decide) _ (by rfl) (by rfl) _ _)
  case wrong =>
    have fired : exec .triggerFire s = .next (fireTriggers q (s.inHand rest)) := congrArg _ (row h (by decide))
    simp [fired, fireTriggers, off, answer_inHand h (by decide)]
  case full =>
    have fired : exec .triggerFire s = .next (fireTriggers q (s.inHand rest)) := congrArg _ (row h (by decide))
    simp [fired, fireTriggers, on, full, answer_inHand h (by decide)]

end Sys2Proof.Machine
end

section
/-! SUPPORT. The statements about frames that find room, about what the Outbound port sends, and about what the clock brings. -/

namespace Sys2Proof.Machine

variable {s t : State} {f : Frame} {v : FrameView} {k : Fin 6}

/-! Frames. -/

/-- Settles O9: the frame by the tests of R181 and R109. -/
theorem processFrameIsHeldOrForwarded : Obligations.ProcessFrameIsHeldOrForwarded := by
  intro s f v h hk
  have row : exec (.processFrame f) s = .next ((s.receive f).takeProcess f v) :=
    congrArg Host.Outcome.next (onFrame_arrives h (by simp [hk]))
  have room : (s.receive f).bufferRoom = true := h.bufferRoom
  have timely : (s.receive f).timely v = s.timely v := rfl
  have wanted : (s.receive f).wanted v.source = s.wanted v.source := rfl
  rw [row, State.takeProcess, timely, wanted, room]
  refine ⟨fun ht hw space => ?_, fun ht hw => ?_, fun ht => ?_⟩
  · rw [ht, hw]
    exact congrArg Host.Outcome.next (offerOrdinary_room (s := (s.receive f).appendFrame f true) _ space)
  · simp [ht, hw, enter_room f room]
  · simp [ht, enter_room (s := (s.receive f).bump .lateFrame) f room]

/-- Settles O10: each row by where its frame goes. -/
theorem receivedFramesGoTheirWay : Obligations.ReceivedFramesGoTheirWay := by
  intro s f up space
  have room : (s.receive f).bufferRoom = true := by simpa [State.bufferRoom] using space
  refine ⟨fun v good hv => ?request, fun v good hv => ?own, fun v good hv => ?other, fun bad => ?failed⟩
  case request =>
    have row : exec (.managementFrame f) s = .next ((s.receive f).takeRequest v) :=
      congrArg Host.Outcome.next (onFrame_arrives ⟨up, good, space⟩ hv)
    have agent : (s.receive f).agent = s.agent := rfl
    rw [row, State.takeRequest, agent]
    exact ⟨fun h => by rw [if_pos h], fun h => by rw [if_neg (by rw [h]; decide)]⟩
  case own => exact congrArg Host.Outcome.next (onFrame_arrives ⟨up, good, space⟩ hv)
  case other =>
    have row : exec (.otherFrame f) s = .next ((s.receive f).enter f) :=
      congrArg Host.Outcome.next (onFrame_arrives ⟨up, good, space⟩ hv)
    rw [row, enter_room f room]
  case failed =>
    have row : exec (.failedCheckFrame f) s = .next (((s.receive f).bump .badCheck).enter f) := by
      show execFailedCheckFrame f s = _
      rw [execFailedCheckFrame, if_pos up, if_pos bad]
    rw [row, enter_room (s := (s.receive f).bump .badCheck) f room]

/-! The Outbound port. -/

theorem finishSending_of_none (h : s.link.sending = none) : s.finishSending = s := by simp [State.finishSending, h]

theorem transmit_up (h : s.link.outbound.state = .up) (f : Frame) :
    s.transmit f = s.withLink { s.link with sending := some f } := by simp [State.transmit, h]

theorem transmit_not_up (h : s.link.outbound.state ≠ .up) (f : Frame) : s.transmit f = s.bump .forwardDiscard := by
  simp [State.transmit, h]

/-- Settles O13: the head by whether it is held, its sending by the port. -/
theorem forwardReleaseSendsTheHead : Obligations.ForwardReleaseSendsTheHead := by
  intro s b rest head quiet
  have row : exec .forwardRelease s = .next (if b.held then s
      else (s.withForward { s.forward with frames := rest }).transmit b.bytes) := by
    show execForwardRelease s = _
    simp [execForwardRelease, head, finishSending_of_none quiet]
  rw [row]
  refine ⟨fun free up => ?_, fun free down => ?_, fun held => by rw [if_pos held]⟩
  · rw [if_neg (ne_true_of_eq_false free)]
    exact congrArg Host.Outcome.next (transmit_up (by exact up) _)
  · rw [if_neg (ne_true_of_eq_false free)]
    exact congrArg Host.Outcome.next (transmit_not_up (by exact down) _)

/-- Whether the tracker lets an insertion start (Figure 12-2). -/
theorem mayInsert_iff (s : State) : s.mayInsert = true ↔
    s.tracker.state = .locked .openSeg ∧ s.link.inserted < s.link.budget ∨ ∀ g, s.tracker.state ≠ .locked g := by
  unfold State.mayInsert
  split
  · rename_i h; simp [h]
  · rename_i h; simp [h]
  · rename_i process openSeg
    simp only [true_iff]
    refine .inr fun g h => ?_
    cases g with
    | process => exact process h
    | openSeg => exact openSeg h

theorem countInsertion_eq (s : State) : s.countInsertion = s.withLink { s.link with
    inserted := if s.tracker.state = .locked .openSeg then s.link.inserted + 1 else s.link.inserted } := by
  unfold State.countInsertion
  split
  · rename_i h; rw [if_pos h]
  · rename_i other; rw [if_neg fun h => other h]; rfl

theorem markerDue_iff (s : State) : s.markerDue = true ↔ s.tracker.state = .locked .openSeg ∧ s.link.outbound.state = .up
    ∧ s.report.state = .active ∧ (∃ d ∈ s.report.records, d.sent = none) ∧ s.report.outstanding.length < 4 := by
  simp [State.markerDue, and_assoc]

/-- Settles O14: whether an insertion may start, then the response or the marker slot. -/
theorem insertionSendsResponseOrMarker : Obligations.InsertionSendsResponseOrMarker := by
  intro s quiet
  have row : exec .insertionStart s = execInsertionStart s := rfl
  refine ⟨fun no => ?_, fun idle may => ?_⟩
  · have closed : (s.forwardIdle && s.mayInsert) = false := by
      obtain h | h | ⟨h, spent⟩ := no
      · simp [h]
      · simp [State.mayInsert, h]
      · simp [State.mayInsert, h, spent]
    simp [row, execInsertionStart, closed]
  have opened : (s.forwardIdle && s.mayInsert) = true := by rw [idle, (mayInsert_iff s).mpr may]; rfl
  refine ⟨fun r rest hr => ?response, fun none_ => ?marker⟩
  case response =>
    have taken : exec .insertionStart s
        = .next ((s.withAgent { s.agent with responses := rest }).countInsertion.transmit (s.responseFrame r)) := by
      rw [row]
      simp [execInsertionStart, opened, hr, finishSending_of_none quiet]
    dsimp only
    rw [taken, countInsertion_eq]
    exact ⟨fun up => congrArg Host.Outcome.next (transmit_up (by exact up) _),
      fun down => congrArg Host.Outcome.next (transmit_not_up (by exact down) _)⟩
  case marker =>
    have due : exec .insertionStart s = .next (if s.markerDue then
        (s.withReport (s.report.build s.banks.active.settings.perFrame)).countInsertion.transmit s.markerFrame else s) := by
      rw [row]
      simp [execInsertionStart, opened, none_, finishSending_of_none quiet]
    dsimp only
    rw [due, ← markerDue_iff]
    refine ⟨fun granted => ?_, fun refused => by rw [if_neg refused]⟩
    obtain ⟨openSeg, up, -⟩ := (markerDue_iff s).mp granted
    rw [if_pos granted, countInsertion_eq, if_pos (by exact openSeg)]
    exact congrArg Host.Outcome.next (transmit_up (by exact up) _)

/-! Timeouts. -/

/-- A raise leaves the records that are held, and may add one at the tail (R121, R122, R158). -/
theorem report_raiseFault (hk : k ≠ reportLoss) (s : State) (d : Nat) : ∃ l g n,
    (s.raiseFault k d).report = { s.report with records := s.report.records ++ l, gap := g, nextSeq := n } := by
  cases flag : s.flag k with
  | true => exact ⟨[], s.report.gap, s.report.nextSeq, by rw [report_raiseFault_of_flag flag, List.append_nil]⟩
  | false =>
    by_cases full : 96 ≤ s.report.records.length
    · exact ⟨[], _, s.report.nextSeq, by rw [report_raiseFault_of_lost flag hk full, List.append_nil]⟩
    · have room : (s.setFault k).report.hasRoom (.fault k d) = true := by simpa [hasRoom_fault] using full
      exact ⟨_, _, _, by rw [report_raiseFault_of_clear flag, offerRecord_room _ _ room]; rfl⟩

/-- Settles O16: the timeout by the retry limit, the expiry by the session. -/
theorem reportTimeoutAndLeaseExpiry : Obligations.ReportTimeoutAndLeaseExpiry := by
  intro s
  have row (due : s.report.timeoutDue = true) : exec .reportTimeout s = .next s.reportTimesOut := by
    show execReportTimeout s = _
    rw [execReportTimeout, if_pos due]
  refine ⟨fun due few => ?_, fun due many => ?_, fun h hs due => ?_⟩
  · have within : ¬ s.banks.active.settings.retryLimit < s.report.revert.resend + 1 := Nat.not_lt.mpr few
    rw [row due, State.reportTimesOut]
    dsimp only
    rw [if_neg within]
    rfl
  · have beyond : s.banks.active.settings.retryLimit < s.report.revert.resend + 1 := many
    rw [row due, State.reportTimesOut]
    dsimp only
    rw [if_pos beyond]
    generalize hu : s.withReport { s.report.revert with resend := s.report.revert.resend + 1, state := .halted } = u
    obtain ⟨l, g, n, report⟩ := report_raiseFault (k := reportHalt) (by decide) u s.banks.active.settings.retryLimit
    have flag := faults_raiseFault (k := reportHalt) (by decide) u s.banks.active.settings.retryLimit
    refine ⟨_, rfl, ?_, by rw [State.flag, flag], ?_, ?_, ?_, ?_, ?_, ?_, ?_, ?_⟩
    · rw [report, ← hu]; rfl
    · rw [report, ← hu]; rfl
    · rw [report, ← hu]; rfl
    · rw [report, ← hu]; exact ⟨l, rfl⟩
    all_goals simp [← hu]
  · show execSessionLeaseExpiry s = _
    rw [execSessionLeaseExpiry, if_pos (by simp [Agent.expiryDue, hs, due])]
    rfl

/-! Counts. -/

/-- Inside a firing the part can step the burst, end a sending, or give itself a command that leaves the clock (log 2). -/
theorem activity_keepsNow (mid : s.midFiring = true) {a : Activity} (ha : a ∈ s.activities) (u : State)
    (hu : u.midFiring = true) : KeepsNow u (a.perform u) := by
  have busy : s.burst.isSome = true := State.midFiring_burst mid
  have command (c : Instr) (hc : a = .command c) (keeps : KeepsNow u (exec c u)) : KeepsNow u (a.perform u) := by
    rw [hc]; exact keeps
  rw [State.activities, List.mem_append] at ha
  obtain work | clock := ha
  · rw [State.work, if_pos busy] at work
    simp only [List.mem_append, List.mem_singleton] at work
    obtain (rfl | request) | sending := work
    · exact .of (burstStep_now hu)
    · split at request
      · obtain ⟨q, -, hq⟩ := by simpa using request
        exact command _ hq.symm (requestCommand_now q u)
      · cases request
    · split at sending
      · rw [List.mem_singleton] at sending
        rw [sending]
        exact .of (by simp)
      · rw [List.mem_append] at sending
        obtain release | insertion := sending
        · split at release
          · exact command _ (List.mem_singleton.mp release) (forwardRelease_now u)
          · cases release
        · split at insertion
          · exact command _ (List.mem_singleton.mp insertion) (insertionStart_now u)
          · cases insertion
  · unfold State.clockWork at clock
    split at clock
    · cases clock
    · obtain ⟨c, hc, rfl⟩ := List.mem_map.mp clock
      simp only [State.dueNow, List.mem_append] at hc
      obtain ((tracker | input) | timeout) | expiry := hc
      · split at tracker
        · rw [List.mem_singleton.mp tracker]; exact trackerTimeout_now u
        · cases tracker
      · obtain ⟨k, -, rfl⟩ := List.mem_map.mp input
        exact inputEdgeAccept_now k u
      · split at timeout
        · rw [List.mem_singleton.mp timeout]; exact reportTimeout_now u
        · cases timeout
      · split at expiry
        · rw [List.mem_singleton.mp expiry]; exact leaseExpiry_now u
        · cases expiry

theorem KeepsNow.now {r : Result} (h : KeepsNow s r) (hr : r = .next t) : t.now = s.now := by
  obtain ⟨u, hu, now⟩ := h
  obtain rfl : u = t := by simpa [hr] using hu.symm
  exact now

/-- A step on an empty queue inside a firing leaves the clock where it is (R34). -/
theorem idle_keepsNow (mid : s.midFiring = true) : KeepsNow s s.idle := by
  unfold State.idle
  split
  · exact .of rfl
  · rename_i a alone
    exact activity_keepsNow mid (by rw [alone]; exact List.mem_singleton_self a) s mid
  · rename_i none_ several
    have short : s.pickBelow s.activities.length < s.activities.length :=
      Nat.mod_lt _ (List.length_pos_iff.mpr none_)
    have picked : s.activities.getD (s.pickBelow s.activities.length) .time ∈ s.activities := by
      rw [List.getD_eq_getElem _ _ short]
      exact List.getElem_mem short
    obtain ⟨t, ht, now⟩ := activity_keepsNow mid picked s.spend mid
    exact ⟨t, ht, now⟩

/-- A timer at its period, not started in the firing in hand (R93). -/
theorem timerExpiry_row {k : Fin 4} (valid : (s.banks.active.timers.get k).valid = true) (running : (s.timers.get k).running = true)
    (full : (s.banks.active.timers.get k).period ≤ (s.timers.get k).elapsed + 1)
    (fresh : s.midFiring = true → (s.timers.get k).elapsed ≠ 0) :
    exec (.timerExpiry k) s = .next ((s.withTimers (s.timers.set k
      (if (s.banks.active.timers.get k).periodic then ⟨true, 0⟩
        else ⟨false, (s.banks.active.timers.get k).period⟩))).offerOrdinary (.timerExpiry k s.stampNow)) := by
  have due : (s.timerDue k && !s.justStarted k) = true := by
    have begun : s.justStarted k = false := by
      cases mid : s.midFiring with
      | false => simp [State.justStarted, mid]
      | true => simp [State.justStarted, fresh mid]
    simp [State.timerDue, valid, running, full, begun]
  show execTimerExpiry k s = _
  rw [execTimerExpiry, if_pos due]
  rfl

/-- Settles O17: the expiry by what the timer is, the pulse by its end, and the clock inside a firing by what can happen there. -/
theorem countsThatComeToTheirEnd : Obligations.CountsThatComeToTheirEnd := by
  refine fun s => ⟨fun k valid running full room fresh => ?expiry, fun j one => ?pulse, fun mid => ⟨fun k zero => ?started,
    fun empty t h => ?clock⟩⟩
  case expiry =>
    rw [timerExpiry_row valid running full fresh]
    exact congrArg Host.Outcome.next (offerOrdinary_room _ (by exact room))
  case pulse =>
    show execPulseEnd j s = _
    rw [execPulseEnd, if_pos (by simp [State.pulseDue, one])]
    rfl
  case started =>
    show execTimerExpiry k s = _
    rw [execTimerExpiry, if_neg (by simp [State.justStarted, mid, zero])]
  case clock =>
    have left : step s = s.idle := by simp [step, empty]
    exact (idle_keepsNow mid).now (left ▸ h)

/-! Inputs. -/

/-- An input change that is due (R103). -/
theorem inputEdgeAccept_row {k : Fin 4} {m : Nat} (since : (s.inputs.get k).since = some m)
    (due : m + 1000 * (s.banks.active.inputs.get k).filter ≤ s.now) : exec (.inputEdgeAccept k) s = .next (s.acceptInput k) := by
  show execInputEdgeAccept k s = _
  rw [execInputEdgeAccept, if_pos ((inputDue_iff s k).mpr ⟨m, since, due⟩)]

/-- Settles O18: the pin by the accepted level, the acceptance by the trigger that waits. -/
theorem inputChangesAreFilteredAndAccepted : Obligations.InputChangesAreFilteredAndAccepted := by
  refine fun s k => ⟨fun high differs => ?_, fun m since due room => ?_⟩
  · have pinned : (s.inputs.get k).pinTo s.now high
        = ⟨(s.inputs.get k).accepted, high, if high = (s.inputs.get k).accepted then none else some s.now⟩ := by
      rw [InputRt.pinTo, if_neg differs]
    show execInputPinChange k high s = _
    rw [execInputPinChange, Tab.modify, pinned]
  · rw [inputEdgeAccept_row since due, acceptInput_eq]
    cases watched : s.inputWatched k with
    | false => rfl
    | true => exact congrArg Host.Outcome.next (offerOrdinary_room _ (by exact room))

/-! Samples. -/

theorem toInt_clamp32 (v : Int) : (clamp32 v).toInt = max (-2147483648) (min 2147483647 v) := by
  unfold clamp32
  rw [BitVec.toInt_ofInt_eq_self (by decide) (by norm_num) (by norm_num)]

/-- Settles O26: the sample by the channel's kind and what it held. -/
theorem channelSampleByKindAndState : Obligations.ChannelSampleByKindAndState := by
  intro k v raw ord
  refine ⟨?_, ?_, fun h => ?_, fun f m hv hk => ?_, fun f m hv hk => ?_, fun m hv => ?_, fun f m hv hf hk => ?_,
    fun f m hv hf hk => ?_⟩
  · cases k <;> cases v <;> rfl
  · cases k <;> cases v <;> rfl
  · obtain rfl | rfl := h
    · exact ⟨rfl, rfl⟩
    · cases k <;> exact ⟨rfl, rfl⟩
  · subst hv hk; rfl
  · subst hv hk; rfl
  · subst hv; cases k <;> rfl
  · subst hv hk
    simp only [nextSample, if_neg hf, velocityOf, toInt_clamp32]
    rfl
  · subst hv hk
    simp only [nextSample, if_neg hf, velocityOf, toInt_clamp32]
    rfl

end Sys2Proof.Machine
end

section
/-! SUPPORT. What a state keeps where faults are raised in it and events are offered, said once as `State.MayRaise`, and how the
tracker moves at a Start, a close and a timeout. -/

namespace Sys2Proof.Machine

variable {s t u : State} {k j : Fin 6} {c : Counter} {e : Event}

/-- `t` comes of `s` by work in which faults may be raised: the engine stays, or leaves RUNNING for DISARMED with a fault, and the
units that act change with it alone; frames stay in the Forward Buffer in their order (R5, R154, R159, R181). -/
structure State.MayRaise (s t : State) : Prop where
  engine : t.engine = s.engine ∨ s.engine = .running ∧ t.engine = .disarmed
  units : t.engine = s.engine → t.trains = s.trains ∧ t.timers = s.timers ∧ t.outputs = s.outputs ∧ t.patches = s.patches
    ∧ t.triggers = s.triggers ∧ t.burst = s.burst
  channels : t.channels = s.channels
  watches : t.watches = s.watches
  inputs : t.inputs = s.inputs
  banks : t.banks = s.banks
  frames : t.forward.frames.map (fun b => (b.id, b.bytes)) = s.forward.frames.map fun b => (b.id, b.bytes)

namespace State.MayRaise

theorem refl (s : State) : s.MayRaise s := ⟨.inl rfl, fun _ => ⟨rfl, rfl, rfl, rfl, rfl, rfl⟩, rfl, rfl, rfl, rfl, rfl⟩

theorem trans (a : s.MayRaise u) (b : u.MayRaise t) : s.MayRaise t where
  engine := by
    obtain h | ⟨h, h'⟩ := b.engine
    · rw [h]; exact a.engine
    · obtain g | ⟨-, g⟩ := a.engine
      · exact .inr ⟨g ▸ h, h'⟩
      · rw [g] at h; cases h
  units := fun same => by
    have through : u.engine = s.engine := by
      obtain g | ⟨g, g'⟩ := a.engine
      · exact g
      · obtain h | ⟨h, -⟩ := b.engine
        · exact h ▸ same
        · rw [g'] at h; cases h
    obtain ⟨a1, a2, a3, a4, a5, a6⟩ := a.units through
    obtain ⟨b1, b2, b3, b4, b5, b6⟩ := b.units (same.trans through.symm)
    exact ⟨b1.trans a1, b2.trans a2, b3.trans a3, b4.trans a4, b5.trans a5, b6.trans a6⟩
  channels := b.channels.trans a.channels
  watches := b.watches.trans a.watches
  inputs := b.inputs.trans a.inputs
  banks := b.banks.trans a.banks
  frames := b.frames.trans a.frames

/-- Outside RUNNING the engine and the units that act stay. -/
theorem engine_of_ne (a : s.MayRaise t) (h : s.engine ≠ .running) : t.engine = s.engine := by
  obtain g | ⟨g, -⟩ := a.engine
  · exact g
  · exact absurd g h

theorem bytes (a : s.MayRaise t) : t.forward.frames.map BufFrame.bytes = s.forward.frames.map BufFrame.bytes := by
  have pairs := congrArg (List.map Prod.snd) a.frames
  rwa [List.map_map, List.map_map] at pairs

theorem bump (s : State) (c : Counter) : s.MayRaise (s.bump c) :=
  ⟨.inl rfl, fun _ => ⟨rfl, rfl, rfl, rfl, rfl, rfl⟩, rfl, rfl, rfl, rfl, rfl⟩

theorem spend (s : State) : s.MayRaise s.spend :=
  ⟨.inl rfl, fun _ => ⟨rfl, rfl, rfl, rfl, rfl, rfl⟩, rfl, rfl, rfl, rfl, rfl⟩

theorem withIntake (s : State) (l : List Event) : s.MayRaise (s.withIntake l) :=
  ⟨.inl rfl, fun _ => ⟨rfl, rfl, rfl, rfl, rfl, rfl⟩, rfl, rfl, rfl, rfl, rfl⟩

theorem withTracker (s : State) (k : Tracker) : s.MayRaise (s.withTracker k) :=
  ⟨.inl rfl, fun _ => ⟨rfl, rfl, rfl, rfl, rfl, rfl⟩, rfl, rfl, rfl, rfl, rfl⟩

theorem withLink (s : State) (l : Link) : s.MayRaise (s.withLink l) :=
  ⟨.inl rfl, fun _ => ⟨rfl, rfl, rfl, rfl, rfl, rfl⟩, rfl, rfl, rfl, rfl, rfl⟩

theorem advanceClose (s : State) : s.MayRaise s.advanceClose :=
  ⟨.inl rfl, fun _ => ⟨rfl, rfl, rfl, rfl, rfl, rfl⟩, rfl, rfl, rfl, rfl, rfl⟩

theorem releaseEvent (s : State) (e : Event) : s.MayRaise (s.releaseEvent e) := by
  unfold State.releaseEvent
  split
  · refine ⟨.inl rfl, fun _ => ⟨rfl, rfl, rfl, rfl, rfl, rfl⟩, rfl, rfl, rfl, rfl, ?_⟩
    simp only [State.forward_withForward, Forward.release, List.map_map]
    refine List.map_congr_left fun b _ => ?_
    simp only [Function.comp_apply]
    split <;> rfl
  · exact refl s

theorem raiseFault (s : State) (k : Fin 6) (d : Nat) : s.MayRaise (s.raiseFault k d) := by
  have engine : (s.raiseFault k d).engine = s.engine ∨ s.engine = .running ∧ (s.raiseFault k d).engine = .disarmed := by
    have disarms (v : State) (h : v.engine = s.engine ∨ s.engine = .running ∧ v.engine = .disarmed) :
        (v.disarmFor k).engine = s.engine ∨ s.engine = .running ∧ (v.disarmFor k).engine = .disarmed := by
      rw [engine_disarmFor]
      split
      · rename_i g
        obtain h | ⟨-, h⟩ := h
        · exact .inr ⟨h ▸ g.1, rfl⟩
        · rw [h] at g; cases g.1
      · exact h
    rw [State.raiseFault, engine_settle]
    refine disarms _ ?_
    split
    · exact .inl rfl
    · exact engine_offerRecord (s.setFault k) _ _
  refine ⟨engine, fun same => ?_, by simp, by simp, by simp, by simp, by simp⟩
  have raw : (s.raiseRaw k d).engine = s.engine := by rwa [State.raiseFault, engine_settle] at same
  rw [State.raiseFault, settle_of_engine_eq raw]
  simp

theorem dropEvent (s : State) (e : Event) : s.MayRaise (s.dropEvent e) :=
  ((bump s _).trans (raiseFault _ _ _)).trans (releaseEvent _ e)

theorem appendEvent (s : State) (e : Event) : s.MayRaise (s.appendEvent e) := withIntake s _

theorem offerCycle (s : State) (e : Event) : s.MayRaise (s.offerCycle e) := by
  unfold State.offerCycle
  split
  · exact appendEvent s e
  · split
    · exact ((withIntake s _).trans (dropEvent _ _)).trans (appendEvent _ e)
    · exact dropEvent s e

theorem overrun (s : State) (f : Frame) : s.MayRaise (s.overrun f) :=
  ((bump s _).trans (raiseFault _ _ _)).trans (spend _)

theorem closeSegment (s : State) : s.MayRaise s.closeSegment :=
  (((withTracker s _).trans (withLink _ _)).trans (offerCycle _ _)).trans (advanceClose _)

theorem impliedClose (s : State) : s.MayRaise s.impliedClose := (bump s _).trans (closeSegment _)

theorem enterLost (s : State) (d : Nat) : s.MayRaise (s.enterLost d) :=
  ((withTracker s _).trans (offerCycle _ _)).trans (raiseFault _ _ _)

end State.MayRaise

/-! Flags and raise counts. -/

theorem faults_raiseRaw_ne (hj : j ≠ k) (hl : j ≠ reportLoss) (s : State) (d : Nat) :
    (s.raiseRaw k d).faults.get j = s.faults.get j := by
  unfold State.raiseRaw
  dsimp only
  rw [State.disarmFor_faults]
  split
  · rw [faults_setFault, if_neg hj.symm]
  · rw [faults_offerRecord hl, faults_setFault, if_neg hj.symm]

theorem faults_raiseFault_ne (hj : j ≠ k) (hl : j ≠ reportLoss) (s : State) (d : Nat) :
    (s.raiseFault k d).faults.get j = s.faults.get j := by
  rw [State.raiseFault, faults_settle, faults_raiseRaw_ne hj hl]

theorem faults_dropEvent_ne (hj : j ≠ eventOverrun) (hl : j ≠ reportLoss) (s : State) (e : Event) :
    (s.dropEvent e).faults.get j = s.faults.get j := by
  rw [State.dropEvent, State.releaseEvent_faults, faults_raiseFault_ne hj hl]
  rfl

theorem faults_dropEvent (s : State) (e : Event) : (s.dropEvent e).faults.get eventOverrun
    = ⟨true, satInc 65535 (s.faults.get eventOverrun).raises⟩ := by
  rw [State.dropEvent, State.releaseEvent_faults, faults_raiseFault (by decide)]
  rfl

theorem faults_overrun (s : State) (f : Frame) : (s.overrun f).faults.get forwardOverrun
    = ⟨true, satInc 65535 (s.faults.get forwardOverrun).raises⟩ := by
  rw [State.overrun, State.spend_faults, faults_raiseFault (by decide)]
  rfl

theorem faults_offerCycle_ne (hj : j ≠ eventOverrun) (hl : j ≠ reportLoss) (s : State) (e : Event) :
    (s.offerCycle e).faults.get j = s.faults.get j := by
  unfold State.offerCycle
  split
  · rfl
  · split
    · exact faults_dropEvent_ne hj hl _ _
    · exact faults_dropEvent_ne hj hl _ _

/-! Counters. -/

theorem counter_dropEvent_ne (hi : c ≠ .intakeDrop) (hr : c ≠ .reportLost) (s : State) (e : Event) :
    (s.dropEvent e).counter c = s.counter c := by
  have released : (s.dropEvent e).counter c = ((s.bump .intakeDrop).raiseFault eventOverrun e.code).counter c := by
    simp [State.dropEvent, State.counter]
  rw [released, counter_raiseFault _ _ _ hr, counter_bump_ne s hi.symm]

theorem counter_dropEvent (s : State) (e : Event) :
    (s.dropEvent e).counter .intakeDrop = satInc 4294967295 (s.counter .intakeDrop) := by
  have released : (s.dropEvent e).counter .intakeDrop
      = ((s.bump .intakeDrop).raiseFault eventOverrun e.code).counter .intakeDrop := by
    simp [State.dropEvent, State.counter]
  rw [released, counter_raiseFault _ _ _ (by decide), counter_bump_self]

theorem counter_offerCycle_ne (hi : c ≠ .intakeDrop) (hr : c ≠ .reportLost) (s : State) (e : Event) :
    (s.offerCycle e).counter c = s.counter c := by
  unfold State.offerCycle
  split
  · rfl
  · split
    · exact counter_dropEvent_ne hi hr _ _
    · exact counter_dropEvent_ne hi hr _ _

theorem counter_overrun_ne (hf : c ≠ .forwardDiscard) (hr : c ≠ .reportLost) (s : State) (f : Frame) :
    (s.overrun f).counter c = s.counter c := by
  have spent : (s.overrun f).counter c
      = ((s.bump .forwardDiscard).raiseFault forwardOverrun (s.sourceByte f).toNat).counter c := rfl
  rw [spent, counter_raiseFault _ _ _ hr, counter_bump_ne s hf.symm]

theorem counter_overrun (s : State) (f : Frame) :
    (s.overrun f).counter .forwardDiscard = satInc 4294967295 (s.counter .forwardDiscard) := by
  have spent : (s.overrun f).counter .forwardDiscard
      = ((s.bump .forwardDiscard).raiseFault forwardOverrun (s.sourceByte f).toNat).counter .forwardDiscard := rfl
  rw [spent, counter_raiseFault _ _ _ (by decide), counter_bump_self]

/-! A cycle event at the Intake Queue (R4, R6). -/

theorem offerCycle_room (h : s.intake.length < 16) (e : Event) : s.offerCycle e = s.appendEvent e := if_pos h

/-- A full queue with an ordinary event drops the newest one for the cycle event. -/
theorem offerCycle_displaces {a b : List Event} {d : Event} (full : s.intake.length = 16) (hs : s.intake = a ++ d :: b)
    (hd : d.ordinary = true) (hb : ∀ e ∈ b, e.ordinary = false) (e : Event) :
    s.offerCycle e = ((s.withIntake (a ++ b)).dropEvent d).appendEvent e := by
  have newest : takeNewest s.intake = some (d, a ++ b) := by
    have last : takeNewest (d :: b) = some (d, b) := by
      have none_ : takeNewest b = none := by
        cases h : takeNewest b with
        | none => rfl
        | some x =>
          obtain ⟨a', b', rfl, ho, -⟩ := (takeNewest_spec b).1 x.1 x.2 h
          rw [hb x.1 (by simp)] at ho; cases ho
      simp [takeNewest, none_, hd]
    rw [hs]
    clear hs
    induction a with
    | nil => exact last
    | cons x a ih => simp [takeNewest, ih]
  have room : ¬ s.intake.length < Config.intakeSize := by rw [full]; decide
  rw [State.offerCycle, if_neg room, newest]

/-- A full queue without an ordinary event drops the cycle event. -/
theorem offerCycle_drops (full : s.intake.length = 16) (h : ∀ e ∈ s.intake, e.ordinary = false) (e : Event) :
    s.offerCycle e = s.dropEvent e := by
  have none_ : takeNewest s.intake = none := by
    cases hn : takeNewest s.intake with
    | none => rfl
    | some x =>
      obtain ⟨a, b, hs, ho, -⟩ := (takeNewest_spec s.intake).1 x.1 x.2 hn
      rw [h x.1 (by simp [hs])] at ho; cases ho
  have room : ¬ s.intake.length < Config.intakeSize := by rw [full]; decide
  rw [State.offerCycle, if_neg room, none_]

/-! The end of the PROCESS segment (R183, R186). -/

theorem tracker_closeSegment (s : State) : s.closeSegment.tracker = { s.tracker with state := .locked .openSeg } := by
  simp [State.closeSegment, State.advanceClose]

theorem link_closeSegment (s : State) : s.closeSegment.link
    = { s.link with budget := s.banks.active.settings.insertionBudget, inserted := 0 } := by
  simp [State.closeSegment, State.advanceClose]

/-- The state in which the event of a close is offered. -/
def State.opened (s : State) : State :=
  (s.withTracker { s.tracker with state := .locked .openSeg }).withLink
    { s.link with budget := s.banks.active.settings.insertionBudget, inserted := 0 }

theorem closeSegment_eq (s : State) : s.closeSegment = (s.opened.offerCycle (.cycleClose s.stampNow)).advanceClose := rfl

theorem closeSegment_joins (s : State) : cycleEventJoins s.intake (.cycleClose s.stampNow) s.closeSegment.intake :=
  offerCycle_joins s.opened _

theorem counter_closeSegment_ne (hi : c ≠ .intakeDrop) (hr : c ≠ .reportLost) (s : State) :
    s.closeSegment.counter c = s.counter c := counter_offerCycle_ne hi hr s.opened _

theorem faults_closeSegment_ne (hj : j ≠ eventOverrun) (hl : j ≠ reportLoss) (s : State) :
    s.closeSegment.faults.get j = s.faults.get j := faults_offerCycle_ne hj hl s.opened _

end Sys2Proof.Machine
end

section
/-! SUPPORT. The statements about the tracker at Starts, closes and timeouts. -/

namespace Sys2Proof.Machine

variable {s t u : State} {f : Frame} {v : FrameView} {n : BitVec 16} {p : Nat} {c : Counter} {j : Fin 6}

/-- The state after the close that a Start, or a timeout, in the PROCESS segment implies; elsewhere it implies none (R186). -/
def State.closed (s : State) : State := if s.tracker.state = .locked .process then s.impliedClose else s

theorem closed_of_process (h : s.tracker.state = .locked .process) : s.closed = s.impliedClose := if_pos h

theorem closed_of_ne (h : s.tracker.state ≠ .locked .process) : s.closed = s := if_neg h

theorem closed_mayRaise (s : State) : s.MayRaise s.closed := by
  unfold State.closed
  split
  · exact .impliedClose s
  · exact .refl s

theorem counter_impliedClose (s : State) :
    s.impliedClose.counter .impliedClose = satInc 4294967295 (s.counter .impliedClose) := by
  rw [State.impliedClose, counter_closeSegment_ne (by decide) (by decide), counter_bump_self]

theorem counter_closed_ne (hc : c ≠ .impliedClose) (hi : c ≠ .intakeDrop) (hr : c ≠ .reportLost) (s : State) :
    s.closed.counter c = s.counter c := by
  unfold State.closed
  split
  · rw [State.impliedClose, counter_closeSegment_ne hi hr, counter_bump_ne s hc.symm]
  · rfl

theorem faults_closed_ne (hj : j ≠ eventOverrun) (hl : j ≠ reportLoss) (s : State) :
    s.closed.faults.get j = s.faults.get j := by
  unfold State.closed
  split
  · exact faults_closeSegment_ne hj hl _
  · rfl

theorem impliedClose_countsClose (s : State) : s.CountsClose s.impliedClose :=
  .between (s1 := s.bump .impliedClose) ⟨rfl, rfl, rfl, rfl⟩ (closeSegment_countsClose _) (.refl _)

theorem impliedClose_joins (s : State) : cycleEventJoins s.intake (.cycleClose s.stampNow) s.impliedClose.intake :=
  closeSegment_joins (s.bump .impliedClose)

/-! A Start (R185, Figure 12-3). -/

/-- The ordinal after a Start (R184). -/
def State.ordinalAfterStart (s : State) (n : BitVec 16) (p : Nat) : BitVec 48 :=
  match s.tracker.state with
  | .unlocked | .lost => s.tracker.ordinal
  | .acquiring => if s.tracker.ref = some ⟨n - 1#16, p⟩ then 0#48 else s.tracker.ordinal
  | .locked _ => s.ordinalPlus 1
  | .missing => s.ordinalPlus 2

/-- The tracker after a Start. -/
def State.trackerAfterStart (s : State) (n : BitVec 16) (p : Nat) : Tracker :=
  { state := stateAfterStart s.tracker n p, ref := some ⟨n, p⟩, ordinal := s.ordinalAfterStart n p
    timeoutAt := some (s.now + 1250 * p), stampCycle := n, stampFrom := s.now }

/-- What a Start in LOCKED or MISSING counts, where it is `ahead` of the recorded one when none is missed (R185). -/
def State.CountsStart (s t : State) (ahead n : BitVec 16) (p : Nat) : Prop :=
  ∀ r, s.tracker.ref = some r →
    t.counter .cycleSlip = (if n = r.number + ahead then s.counter .cycleSlip else satInc 4294967295 (s.counter .cycleSlip))
    ∧ t.counter .periodChange
      = (if p = r.period then s.counter .periodChange else satInc 4294967295 (s.counter .periodChange))

theorem countStart_eq (s : State) (ahead n : BitVec 16) (p : Nat) : ∃ c, s.countStart ahead n p = s.withCounters c
    ∧ s.CountsStart (s.withCounters c) ahead n p
    ∧ ∀ k, k ≠ .cycleSlip → k ≠ .periodChange → (s.withCounters c).counter k = s.counter k := by
  refine ⟨(s.countStart ahead n p).counters, ?_⟩
  have form : s.countStart ahead n p = s.withCounters (s.countStart ahead n p).counters := by
    unfold State.countStart
    split
    · rfl
    · dsimp only
      split <;> split <;> rfl
  rw [← form]
  refine ⟨rfl, fun r hr => ?_, fun k slip period => ?_⟩
  · have slip : (s.bump .cycleSlip).counter .periodChange = s.counter .periodChange := counter_bump_ne s (by decide)
    have period (v : State) : (v.bump .periodChange).counter .cycleSlip = v.counter .cycleSlip := counter_bump_ne v (by decide)
    simp only [State.countStart, hr]
    by_cases number : n = r.number + ahead <;> by_cases length : p = r.period <;>
      simp [number, length, counter_bump_self, slip, period]
  · unfold State.countStart
    split
    · rfl
    · dsimp only
      split <;> split
      · rfl
      · exact counter_bump_ne s slip.symm
      · exact counter_bump_ne s period.symm
      · rw [counter_bump_ne _ period.symm, counter_bump_ne s slip.symm]

/-- A Start that begins a PROCESS segment: its counts, the tracker, and then its event. -/
theorem startCycle_eq (s : State) (m : Nat) (n : BitVec 16) (p : Nat) : ∃ c i, s.startCycle m n p
      = (((s.withCounters c).withTracker ⟨.locked .process, some ⟨n, p⟩, s.ordinalPlus m, some (s.now + 1250 * p), n, s.now⟩
          ).withFreeIdx i).offerCycle (.cycleStart n ⟨n, 0⟩)
    ∧ s.CountsStart (s.withCounters c) (BitVec.ofNat 16 m) n p
    ∧ ∀ k, k ≠ .cycleSlip → k ≠ .periodChange → (s.withCounters c).counter k = s.counter k := by
  obtain ⟨c, hc, counts⟩ := countStart_eq s (BitVec.ofNat 16 m) n p
  refine ⟨c, if s.tracker.ordinal.toNat + m < 2 ^ 48 then s.freeIdx else s.freeIdx + 1, ?_, counts⟩
  unfold State.startCycle
  dsimp only
  rw [hc]
  by_cases fits : s.tracker.ordinal.toNat + m < 2 ^ 48
  · rw [if_pos fits, if_pos (by exact fits)]; rfl
  · rw [if_neg fits, if_neg (by exact fits)]; rfl

/-- How far ahead of the recorded number a Start is when none is missed (R185). -/
def State.ahead (s : State) : BitVec 16 := if s.tracker.state = .missing then 2#16 else 1#16

/-- `x` is the state in which the event of a Start is offered: the close that the Start implies is done, the tracker is set, and
the Start is counted. -/
structure State.Started (s x : State) (n : BitVec 16) (p : Nat) : Prop where
  form : ∃ c i, x = ((s.closed.withCounters c).withTracker (s.trackerAfterStart n p)).withFreeIdx i
  counts : (∃ g, s.tracker.state = .locked g) ∨ s.tracker.state = .missing → s.closed.CountsStart x s.ahead n p
  others : ∀ k, k ≠ .cycleSlip → k ≠ .periodChange → x.counter k = s.closed.counter k

/-- A Start that begins no new PROCESS segment after another cycle. -/
theorem started_of_unlocked (h : ∀ g, s.tracker.state ≠ .locked g) (hm : s.tracker.state ≠ .missing) :
    s.Started (s.withTracker (s.trackerAfterStart n p)) n p := by
  have same := closed_of_ne (h .process)
  refine ⟨⟨s.counters, s.freeIdx, by rw [same]; rfl⟩, fun g => ?_, fun k _ _ => by rw [same]; rfl⟩
  obtain ⟨g, hg⟩ | hg := g
  · exact absurd hg (h g)
  · exact absurd hg hm

/-- A Start that begins a PROCESS segment `m` cycles on. -/
theorem started_of_cycle {m : Nat} (hs : s.trackerAfterStart n p
      = ⟨.locked .process, some ⟨n, p⟩, s.ordinalPlus m, some (s.now + 1250 * p), n, s.now⟩)
    (now : s.closed.now = s.now) (ord : s.closed.ordinalPlus m = s.ordinalPlus m) (hm : s.ahead = BitVec.ofNat 16 m) :
    ∃ x, s.closed.startCycle m n p = x.offerCycle (.cycleStart n ⟨n, 0⟩) ∧ s.Started x n p := by
  obtain ⟨c, i, form, counts, others⟩ := startCycle_eq s.closed m n p
  rw [now, ord, ← hs] at form
  exact ⟨_, form, ⟨c, i, rfl⟩, fun _ => by rw [hm]; exact counts, others⟩

theorem now_closed (s : State) : s.closed.now = s.now := by unfold State.closed; split <;> simp

theorem ordinalPlus_closed (s : State) (m : Nat) : s.closed.ordinalPlus m = s.ordinalPlus m := by
  unfold State.closed
  split
  · have tracker : s.impliedClose.tracker.ordinal = s.tracker.ordinal := by simp [State.impliedClose, tracker_closeSegment]
    simp [State.ordinalPlus, tracker]
  · rfl

/-- A Start: what comes before its event, and then the event of a Start that leaves the tracker LOCKED (Figure 12-3). -/
theorem takeStart_eq (s : State) (n : BitVec 16) (p : Nat) : ∃ x, s.Started x n p
    ∧ s.takeStart n p = if stateAfterStart s.tracker n p = .locked .process then x.offerCycle (.cycleStart n ⟨n, 0⟩) else x := by
  cases hs : s.tracker.state with
  | unlocked =>
    refine ⟨_, started_of_unlocked (by simp [hs]) (by simp [hs]), ?_⟩
    simp [State.takeStart, State.trackerAfterStart, State.ordinalAfterStart, stateAfterStart, hs, State.startAs, timeoutNs]
  | lost =>
    refine ⟨_, started_of_unlocked (by simp [hs]) (by simp [hs]), ?_⟩
    simp [State.takeStart, State.trackerAfterStart, State.ordinalAfterStart, stateAfterStart, hs, State.startAs, timeoutNs]
  | acquiring =>
    refine ⟨_, started_of_unlocked (by simp [hs]) (by simp [hs]), ?_⟩
    by_cases next : s.tracker.ref = some ⟨n - 1#16, p⟩ <;>
      simp [State.takeStart, State.trackerAfterStart, State.ordinalAfterStart, stateAfterStart, hs, State.startAs, timeoutNs,
        State.startEvent, next]
  | locked g =>
    obtain ⟨x, hx, started⟩ := started_of_cycle (s := s) (n := n) (p := p) (m := 1)
      (by simp [State.trackerAfterStart, State.ordinalAfterStart, stateAfterStart, hs]) (now_closed s)
      (ordinalPlus_closed s 1) (by simp [State.ahead, hs])
    refine ⟨x, started, ?_⟩
    rw [show stateAfterStart s.tracker n p = .locked .process by simp [stateAfterStart, hs], if_pos rfl, ← hx]
    cases g <;> simp [State.takeStart, State.closed, hs]
  | missing =>
    obtain ⟨x, hx, started⟩ := started_of_cycle (s := s) (n := n) (p := p) (m := 2)
      (by simp [State.trackerAfterStart, State.ordinalAfterStart, stateAfterStart, hs]) (now_closed s)
      (ordinalPlus_closed s 2) (by simp [State.ahead, hs])
    refine ⟨x, started, ?_⟩
    rw [show stateAfterStart s.tracker n p = .locked .process by simp [stateAfterStart, hs], if_pos rfl, ← hx]
    simp [State.takeStart, State.closed, hs]

namespace State.Started

variable {x : State}

theorem tracker (h : s.Started x n p) : x.tracker = s.trackerAfterStart n p := by
  obtain ⟨c, i, rfl⟩ := h.form; rfl

theorem mayRaise (h : s.Started x n p) : s.MayRaise x := by
  obtain ⟨c, i, rfl⟩ := h.form
  exact (closed_mayRaise s).trans ⟨.inl rfl, fun _ => ⟨rfl, rfl, rfl, rfl, rfl, rfl⟩, rfl, rfl, rfl, rfl, rfl⟩

theorem intake (h : s.Started x n p) : x.intake = s.closed.intake := by
  obtain ⟨c, i, rfl⟩ := h.form; rfl

theorem faults (h : s.Started x n p) : x.faults = s.closed.faults := by
  obtain ⟨c, i, rfl⟩ := h.form; rfl

theorem engine (h : s.Started x n p) : x.engine = s.closed.engine := by
  obtain ⟨c, i, rfl⟩ := h.form; rfl

theorem keepsClock (h : s.Started x n p) : s.closed.KeepsClock x := by
  obtain ⟨c, i, rfl⟩ := h.form; exact ⟨rfl, rfl, rfl, rfl⟩

end State.Started

theorem tracker_takeStart (s : State) (n : BitVec 16) (p : Nat) : (s.takeStart n p).tracker = s.trackerAfterStart n p := by
  obtain ⟨x, started, ht⟩ := takeStart_eq s n p
  rw [ht]
  split
  · rw [State.offerCycle_tracker, started.tracker]
  · exact started.tracker

theorem takeStart_mayRaise (s : State) (n : BitVec 16) (p : Nat) : s.MayRaise (s.takeStart n p) := by
  obtain ⟨x, started, ht⟩ := takeStart_eq s n p
  rw [ht]
  split
  · exact started.mayRaise.trans (.offerCycle _ _)
  · exact started.mayRaise

theorem takeStart_keepsClock (s : State) (n : BitVec 16) (p : Nat) : s.closed.KeepsClock (s.takeStart n p) := by
  obtain ⟨x, started, ht⟩ := takeStart_eq s n p
  rw [ht]
  split
  · exact started.keepsClock.trans (offerCycle_keepsClock _ _)
  · exact started.keepsClock

theorem takeStart_countsClose (h : s.tracker.state = .locked .process) (n : BitVec 16) (p : Nat) :
    s.CountsClose (s.takeStart n p) := by
  have after := takeStart_keepsClock s n p
  rw [closed_of_process h] at after
  exact .between (.refl s) (impliedClose_countsClose s) after

/-- The event of a Start joins the queue that the close it implies leaves (R185, R186). -/
theorem takeStart_joins (s : State) (n : BitVec 16) (p : Nat) :
    (stateAfterStart s.tracker n p = .locked .process →
      cycleEventJoins s.closed.intake (.cycleStart n ⟨n, 0⟩) (s.takeStart n p).intake)
    ∧ (stateAfterStart s.tracker n p ≠ .locked .process → (s.takeStart n p).intake = s.closed.intake) := by
  obtain ⟨x, started, ht⟩ := takeStart_eq s n p
  rw [ht, ← started.intake]
  exact ⟨fun h => by rw [if_pos h]; exact offerCycle_joins x _, fun h => by rw [if_neg h]⟩

theorem counter_takeStart (h1 : c ≠ .intakeDrop) (h2 : c ≠ .reportLost) (s : State) (n : BitVec 16) (p : Nat) :
    ∃ x, s.Started x n p ∧ (s.takeStart n p).counter c = x.counter c := by
  obtain ⟨x, started, ht⟩ := takeStart_eq s n p
  refine ⟨x, started, ?_⟩
  rw [ht]
  split
  · exact counter_offerCycle_ne h1 h2 x _
  · rfl

/-- A Start moves no counter but those of R185 and R186, and those of a full queue. -/
theorem counter_takeStart_ne (h1 : c ∉ [Counter.intakeDrop, .reportLost, .cycleSlip, .periodChange, .impliedClose])
    (s : State) (n : BitVec 16) (p : Nat) : (s.takeStart n p).counter c = s.counter c := by
  simp only [List.mem_cons, List.not_mem_nil, or_false, not_or] at h1
  obtain ⟨drop, lost, slip, period, implied⟩ := h1
  obtain ⟨x, started, hx⟩ := counter_takeStart drop lost s n p
  rw [hx, started.others c slip period, counter_closed_ne implied drop lost]

theorem impliedClose_takeStart (s : State) (n : BitVec 16) (p : Nat) : (s.takeStart n p).counter .impliedClose
    = if s.tracker.state = .locked .process then satInc 4294967295 (s.counter .impliedClose) else s.counter .impliedClose := by
  obtain ⟨x, started, hx⟩ := counter_takeStart (c := .impliedClose) (by decide) (by decide) s n p
  rw [hx, started.others _ (by decide) (by decide), State.closed]
  split
  · exact counter_impliedClose s
  · rfl

theorem takeStart_countsStart (h : (∃ g, s.tracker.state = .locked g) ∨ s.tracker.state = .missing) (n : BitVec 16) (p : Nat) :
    s.CountsStart (s.takeStart n p) s.ahead n p := by
  intro r hr
  obtain ⟨x, started, hx⟩ := takeStart_eq s n p
  have kept {k : Counter} (drop : k ≠ .intakeDrop) (lost : k ≠ .reportLost) : (s.takeStart n p).counter k = x.counter k := by
    rw [hx]
    split
    · exact counter_offerCycle_ne drop lost x _
    · rfl
  have ref : s.closed.tracker.ref = s.tracker.ref := by
    unfold State.closed
    split
    · simp [State.impliedClose, tracker_closeSegment]
    · rfl
  obtain ⟨slip, period⟩ := started.counts h r (ref.trans hr)
  rw [kept (by decide) (by decide), kept (by decide) (by decide), slip, period,
    counter_closed_ne (by decide) (by decide) (by decide), counter_closed_ne (by decide) (by decide) (by decide)]
  exact ⟨rfl, rfl⟩

theorem faults_takeStart_ne (hj : j ≠ eventOverrun) (hl : j ≠ reportLoss) (s : State) (n : BitVec 16) (p : Nat) :
    (s.takeStart n p).faults.get j = s.faults.get j := by
  obtain ⟨x, started, ht⟩ := takeStart_eq s n p
  rw [ht, ← faults_closed_ne hj hl s, ← started.faults]
  split
  · exact faults_offerCycle_ne hj hl x _
  · rfl

/-- A Start whose events find room. -/
theorem takeStart_room (room : s.intake.length + (if s.tracker.state = .locked .process then 2 else 1) ≤ 16)
    (n : BitVec 16) (p : Nat) : (s.takeStart n p).intake
      = s.intake ++ (if s.tracker.state = .locked .process then [.cycleClose s.stampNow] else [])
        ++ (if stateAfterStart s.tracker n p = .locked .process then [.cycleStart n ⟨n, 0⟩] else [])
    ∧ (s.takeStart n p).engine = s.engine ∧ (s.takeStart n p).faults = s.faults := by
  have closes : s.closed.intake = s.intake ++ (if s.tracker.state = .locked .process then [.cycleClose s.stampNow] else [])
      ∧ s.closed.engine = s.engine ∧ s.closed.faults = s.faults := by
    unfold State.closed
    split
    · rename_i h
      rw [if_pos h] at room
      have offered := offerCycle_room (s := (s.bump .impliedClose).opened) (e := .cycleClose s.stampNow)
        (show s.intake.length < 16 by omega)
      have closed : s.impliedClose = ((s.bump .impliedClose).opened.offerCycle (.cycleClose s.stampNow)).advanceClose := rfl
      rw [closed, offered]
      exact ⟨rfl, rfl, rfl⟩
    · simp
  obtain ⟨intake, engine, faults⟩ := closes
  obtain ⟨x, started, ht⟩ := takeStart_eq s n p
  rw [ht, ← intake, ← engine, ← faults, ← started.intake, ← started.engine, ← started.faults]
  split
  · rw [offerCycle_room]
    · exact ⟨rfl, rfl, rfl⟩
    · rw [started.intake, intake, List.length_append]
      by_cases process : s.tracker.state = .locked .process
      · rw [if_pos process] at room ⊢
        exact Nat.lt_of_succ_le room
      · rw [if_neg process] at room ⊢
        exact Nat.lt_of_succ_le room
  · simp

/-- A Start that is given to the tracker is a Cycle Start. -/
theorem kind_of_startPeriod (h : startPeriod v = some p) : v.kind = kindCycleStart := by
  unfold startPeriod at h
  dsimp only at h
  split at h
  · rename_i g; exact g.1
  · cases h

/-- The ordinals after a Start, by the state before it (R184). -/
theorem ordinalAfterStart_spec (s : State) (n : BitVec 16) (p : Nat) :
    (s.tracker.state = .acquiring → stateAfterStart s.tracker n p = .locked .process → s.ordinalAfterStart n p = 0#48)
    ∧ (∀ g, s.tracker.state = .locked g → s.tracker.ordinal.toNat + 1 < 2 ^ 48 →
        s.ordinalAfterStart n p = s.tracker.ordinal + 1#48)
    ∧ (s.tracker.state = .missing → s.tracker.ordinal.toNat + 2 < 2 ^ 48 →
        s.ordinalAfterStart n p = s.tracker.ordinal + 2#48)
    ∧ (stateAfterStart s.tracker n p = .acquiring → s.ordinalAfterStart n p = s.tracker.ordinal) := by
  have plus (m : Nat) (fits : s.tracker.ordinal.toNat + m < 2 ^ 48) :
      s.ordinalPlus m = s.tracker.ordinal + BitVec.ofNat 48 m := by
    unfold State.ordinalPlus
    dsimp only
    rw [if_pos fits, BitVec.ofNat_add, BitVec.ofNat_toNat, BitVec.setWidth_eq]
  unfold State.ordinalAfterStart
  refine ⟨fun acquiring locks => ?_, fun g hg fits => ?_, fun missing fits => ?_, fun waits => ?_⟩
  · rw [stateAfterStart, acquiring] at locks
    rw [acquiring]
    dsimp only at locks ⊢
    split at locks
    · rename_i next; rw [if_pos next]
    · cases locks
  · rw [hg]; exact plus 1 fits
  · rw [missing]; exact plus 2 fits
  · cases hs : s.tracker.state with
    | unlocked => rfl
    | lost => rfl
    | acquiring =>
      rw [stateAfterStart, hs] at waits
      dsimp only at waits ⊢
      split at waits
      · cases waits
      · rename_i other; rw [if_neg other]
    | locked g => rw [stateAfterStart, hs] at waits; cases waits
    | missing => rw [stateAfterStart, hs] at waits; cases waits

/-- Where no close is implied, a Start leaves report timer and Agent. -/
theorem takeStart_keeps (h : s.tracker.state ≠ .locked .process) (n : BitVec 16) (p : Nat) : s.KeepsClock (s.takeStart n p) := by
  have keeps := takeStart_keepsClock s n p
  rwa [closed_of_ne h] at keeps

/-- A given Start at an UP port that finds room. -/
theorem cycleStart_row (h : s.Arrives f v) (hp : startPeriod v = some p) :
    exec (.cycleStartFrame f) s = .next (((s.receive f).appendFrame f false).takeStart v.cycle p) := by
  refine congrArg Host.Outcome.next ((onFrame_arrives h (by simp [kind_of_startPeriod hp])).trans ?_)
  simp only [hp]
  exact enterAnd_room f _ h.bufferRoom

/-- Settles O7: the Start by what it implies, sets, counts and offers. -/
theorem cycleStartMovesTheTracker : Obligations.CycleStartMovesTheTracker := by
  intro s f v p h hp
  have row := cycleStart_row h hp
  obtain ⟨u, hu⟩ : ∃ u, u = (s.receive f).appendFrame f false := ⟨_, rfl⟩
  rw [← hu] at row
  have tracker : u.tracker = s.tracker := by rw [hu]; rfl
  have counter (c : Counter) : u.counter c = ((s.hearFrame f).bump .framesIn).counter c := by rw [hu]; rfl
  have kept {c : Counter} (hc : c ≠ .framesIn) : u.counter c = s.counter c := by
    rw [counter, counter_bump_ne _ hc.symm]; rfl
  have raises := takeStart_mayRaise u v.cycle p
  have after := tracker_takeStart u v.cycle p
  obtain ⟨lock, next, skip, stay⟩ := ordinalAfterStart_spec u v.cycle p
  have state : (u.takeStart v.cycle p).tracker.state = stateAfterStart u.tracker v.cycle p := by rw [after]; rfl
  have ordinal : (u.takeStart v.cycle p).tracker.ordinal = u.ordinalAfterStart v.cycle p := by rw [after]; rfl
  refine ⟨_, row, by rw [state, tracker], by rw [after]; rfl, by rw [after, hu]; rfl, by rw [after]; rfl, by rw [after, hu]; rfl,
    ?lock, ?next, ?skip, ?stay, ?counts, ?implied, ?closes, ?keeps, ?frames, ?framesIn, ?channels, ?watches, ?inputs, ?banks,
    ?room⟩
  case lock => rw [ordinal, state, ← tracker]; exact lock
  case next => rw [ordinal, ← tracker]; exact next
  case skip => rw [ordinal, ← tracker]; exact skip
  case stay => rw [ordinal, state, ← tracker]; exact stay
  case counts =>
    intro r hr locked
    rw [← tracker] at hr locked
    obtain ⟨slip, period⟩ := takeStart_countsStart locked v.cycle p r hr
    rw [slip, period, kept (by decide), kept (by decide), State.ahead, tracker]
    exact ⟨rfl, rfl⟩
  case implied => rw [impliedClose_takeStart, tracker, kept (by decide)]
  case closes =>
    intro process
    rw [← tracker] at process
    exact .between (s1 := u) (by rw [hu]; exact ⟨rfl, rfl, rfl, rfl⟩) (takeStart_countsClose process v.cycle p) (.refl _)
  case keeps =>
    intro other
    rw [← tracker] at other
    have keeps := takeStart_keeps other v.cycle p
    rw [keeps.timer, keeps.due, keeps.agent, hu]
    exact ⟨rfl, rfl, rfl⟩
  case frames => rw [raises.bytes, hu]; simp [State.appendFrame]
  case framesIn => rw [counter_takeStart_ne (by decide), counter, counter_bump_self]; rfl
  case channels => rw [raises.channels, hu]; rfl
  case watches => rw [raises.watches, hu]; rfl
  case inputs => rw [raises.inputs, hu]; rfl
  case banks => rw [raises.banks, hu]; rfl
  case room =>
    intro room
    have events : u.intake = s.intake := by rw [hu]; rfl
    have stamp : u.stampNow = s.stampNow := by rw [hu]; rfl
    rw [← tracker, ← events] at room
    obtain ⟨intake, engine, faults⟩ := takeStart_room room v.cycle p
    obtain ⟨trains, timers, outputs, patches, triggers, burst⟩ := raises.units engine
    rw [state, intake, engine, faults, trains, timers, outputs, patches, triggers, burst, tracker, events, stamp, hu]
    exact ⟨rfl, rfl, rfl, rfl, rfl, rfl, rfl, rfl, rfl⟩

end Sys2Proof.Machine
end

section
/-! SUPPORT. The statements about closes, the tracker's timeout, and the ports. -/

namespace Sys2Proof.Machine

variable {s t u : State} {f : Frame} {v : FrameView} {n : BitVec 16} {c : Counter} {j : Fin 6}

/-! A close (R186). -/

/-- Whether a Cycle Close bears another number than the recorded one (R186). -/
def State.mismatches (s : State) (n : BitVec 16) : Bool := match s.tracker.ref with | some r => r.number != n | none => true

/-- The state in which a Cycle Close in the PROCESS segment ends it: a number that is not the recorded one is counted (R186). -/
def State.countClose (s : State) (n : BitVec 16) : State := if s.mismatches n then s.bump .closeMismatch else s

theorem takeClose_process (h : s.tracker.state = .locked .process) (n : BitVec 16) :
    s.takeClose n = (s.countClose n).closeSegment := by
  unfold State.takeClose
  rw [h]
  rfl

theorem takeClose_openSeg (h : s.tracker.state = .locked .openSeg) (n : BitVec 16) : s.takeClose n = s.bump .extraClose := by
  unfold State.takeClose
  rw [h]

theorem takeClose_of_ne (h : ∀ g, s.tracker.state ≠ .locked g) (n : BitVec 16) : s.takeClose n = s := by
  unfold State.takeClose
  split
  · rename_i g; exact absurd g (h _)
  · rename_i g; exact absurd g (h _)
  · rfl

/-- Counting a close changes a counter at most. -/
theorem countClose_eq (s : State) (n : BitVec 16) : ∃ c, s.countClose n = s.withCounters c
    ∧ (∀ k, k ≠ .closeMismatch → (s.countClose n).counter k = s.counter k)
    ∧ ∀ r, s.tracker.ref = some r → (s.countClose n).counter .closeMismatch
      = if n = r.number then s.counter .closeMismatch else satInc 4294967295 (s.counter .closeMismatch) := by
  unfold State.countClose
  by_cases differs : s.mismatches n = true
  · rw [if_pos differs]
    refine ⟨_, rfl, fun k hk => counter_bump_ne s hk.symm, fun r hr => ?_⟩
    have other : n ≠ r.number := by
      rintro rfl
      simp [State.mismatches, hr] at differs
    rw [if_neg other, counter_bump_self]
  · rw [if_neg differs]
    refine ⟨s.counters, rfl, fun _ _ => rfl, fun r hr => ?_⟩
    have own : n = r.number := by
      by_contra other
      exact differs (by simp [State.mismatches, hr, Ne.symm other])
    rw [if_pos own]

/-- A close whose event finds room changes neither the engine nor a fault. -/
theorem closeSegment_room (room : s.intake.length < 16) : s.closeSegment.intake = s.intake ++ [.cycleClose s.stampNow]
    ∧ s.closeSegment.engine = s.engine ∧ s.closeSegment.faults = s.faults ∧ s.closeSegment.forward = s.forward := by
  rw [closeSegment_eq, offerCycle_room (s := s.opened) room]
  exact ⟨rfl, rfl, rfl, rfl⟩

/-- A given close at an UP port that finds room. -/
theorem cycleClose_row (h : s.Arrives f v) (hc : closeGiven v = true) :
    exec (.cycleCloseFrame f) s = .next (((s.receive f).appendFrame f false).takeClose v.cycle) := by
  have kind : v.kind = kindCycleClose := by
    unfold closeGiven at hc
    simpa using (Bool.and_eq_true_iff.mp hc).1
  refine congrArg Host.Outcome.next ((onFrame_arrives h (by simp [kind])).trans ?_)
  simp only [hc, if_true]
  exact enterAnd_room f _ h.bufferRoom

/-- Settles O8: the close by the segment. -/
theorem cycleCloseOpensTheSegment : Obligations.CycleCloseOpensTheSegment := by
  intro s f v h hc
  rw [cycleClose_row h hc]
  obtain ⟨u, hu⟩ : ∃ u, u = (s.receive f).appendFrame f false := ⟨_, rfl⟩
  rw [← hu]
  have tracker : u.tracker = s.tracker := by rw [hu]; rfl
  rw [← tracker]
  refine ⟨fun process => ?_, fun openSeg => by rw [takeClose_openSeg openSeg], fun other => by rw [takeClose_of_ne other]⟩
  obtain ⟨c, counted, kept, mismatch⟩ := countClose_eq u v.cycle
  obtain ⟨w, hw⟩ : ∃ w, w = u.countClose v.cycle := ⟨_, rfl⟩
  rw [← hw] at counted kept mismatch
  have raises := State.MayRaise.closeSegment w
  rw [takeClose_process process, ← hw]
  refine ⟨_, rfl, by rw [tracker_closeSegment, counted]; rfl, by rw [link_closeSegment, counted, hu]; rfl, ?frames, ?mismatch,
    ?closes, by rw [raises.channels, counted, hu]; rfl, by rw [raises.watches, counted, hu]; rfl,
    by rw [raises.inputs, counted, hu]; rfl, by rw [raises.banks, counted, hu]; rfl, ?room⟩
  case frames => rw [raises.bytes, counted, hu]; simp [State.appendFrame]
  case mismatch =>
    intro r hr
    have before : u.counter .closeMismatch = s.counter .closeMismatch := by
      rw [hu]; exact counter_bump_ne (s.hearFrame f) (by decide)
    rw [counter_closeSegment_ne (by decide) (by decide), mismatch r hr, before]
  case closes =>
    exact .between (s1 := w) (by rw [counted, hu]; exact ⟨rfl, rfl, rfl, rfl⟩) (closeSegment_countsClose w) (.refl _)
  case room =>
    intro room
    obtain ⟨intake, engine, faults, forward⟩ := closeSegment_room (s := w) (by rw [counted, hu]; exact room)
    obtain ⟨trains, timers, outputs, patches, triggers, burst⟩ := raises.units engine
    rw [intake, engine, faults, forward, trains, timers, outputs, patches, triggers, burst, counted, hu]
    exact ⟨rfl, rfl, rfl, rfl, rfl, rfl, rfl, rfl, rfl, rfl⟩

/-! The tracker's timeout (R184, R187). -/

theorem trackerTimeout_row {d : Nat} (hd : s.tracker.timeoutAt = some d) (due : d ≤ s.now) :
    exec .trackerTimeout s = .next (s.trackerExpires d) := by
  show execTrackerTimeout s = _
  simp [execTrackerTimeout, State.trackerDue, hd, due]

theorem enterMissing_eq {r : CycleRef} (hr : s.tracker.ref = some r) (d : Nat) : s.enterMissing d
    = s.withTracker { s.tracker with state := .missing, timeoutAt := some (d + 1250 * r.period) } := by
  simp [State.enterMissing, hr, timeoutNs]

/-- The entry into LOST: its event, its fault, and nothing of the Agent or the report timer (R187). -/
theorem tracker_enterLost (s : State) (d : Nat) :
    (s.enterLost d).tracker = { s.tracker with state := .lost, timeoutAt := none } := by
  simp [State.enterLost]

theorem enterLost_joins (s : State) (d : Nat) :
    cycleEventJoins s.intake (.cycleLost s.stampNow) (s.enterLost d).intake := by
  have joins := offerCycle_joins (s.withTracker { s.tracker with state := .lost, timeoutAt := none }) (.cycleLost s.stampNow)
  rw [State.enterLost, State.raiseFault_intake]
  exact joins

theorem enterLost_keepsClock (s : State) (d : Nat) : s.KeepsClock (s.enterLost d) :=
  State.KeepsClock.trans (u := s.withTracker { s.tracker with state := .lost, timeoutAt := none }) ⟨rfl, rfl, rfl, rfl⟩
    ((offerCycle_keepsClock _ _).trans (raiseFault_keepsClock _ _ _))

theorem faults_enterLost (s : State) (d : Nat) :
    (s.enterLost d).faults.get cycleLost = ⟨true, satInc 65535 (s.faults.get cycleLost).raises⟩ := by
  rw [State.enterLost, faults_raiseFault (by decide), faults_offerCycle_ne (by decide) (by decide)]
  rfl

theorem faults_enterLost_ne (hj : j ≠ eventOverrun) (hl : j ≠ reportLoss) (hc : j ≠ cycleLost) (s : State) (d : Nat) :
    (s.enterLost d).faults.get j = s.faults.get j := by
  rw [State.enterLost, faults_raiseFault_ne hc hl, faults_offerCycle_ne hj hl]
  rfl

/-- Settles O15: the timeout by the tracker's state. -/
theorem trackerTimeoutByState : Obligations.TrackerTimeoutByState := by
  intro s d r hd due hr
  refine ⟨_, trackerTimeout_row hd due, ?_⟩
  cases hs : s.tracker.state with
  | unlocked => simp [State.trackerExpires, hs]
  | lost => simp [State.trackerExpires, hs]
  | acquiring => simp [State.trackerExpires, hs, State.unlockTracker]
  | missing =>
    have lost : s.trackerExpires d = s.enterLost 1 := by simp [State.trackerExpires, hs]
    have clock := enterLost_keepsClock s 1
    have faults := faults_enterLost s 1
    have raises := State.MayRaise.enterLost s 1
    rw [lost]
    refine ⟨(by intro h; cases h), (by intro g h; cases h), (by intro h; cases h), fun _ => ⟨tracker_enterLost s 1, ?_, ?_,
      clock.agent, clock.timer, clock.due, enterLost_joins s 1⟩, (by intro h; cases h), raises.channels, raises.watches,
      raises.inputs, raises.banks⟩
    · rw [State.flag, faults]
    · rw [faults]
  | locked g =>
    cases g with
    | openSeg =>
      have missing : s.trackerExpires d = s.enterMissing d := by simp [State.trackerExpires, hs]
      rw [missing, enterMissing_eq hr]
      simp
    | process =>
      have missing : s.trackerExpires d = s.impliedClose.enterMissing d := by simp [State.trackerExpires, hs]
      have tracker : s.impliedClose.tracker = { s.tracker with state := .locked .openSeg } := tracker_closeSegment _
      have ref : s.impliedClose.tracker.ref = some r := by rw [tracker]; exact hr
      have closes := impliedClose_countsClose s
      have raises := State.MayRaise.impliedClose s
      rw [missing, enterMissing_eq ref, tracker]
      exact ⟨(by intro h; cases h), fun g _ => rfl,
        fun _ => ⟨counter_impliedClose s, ⟨closes.timer, closes.due, closes.agent⟩, impliedClose_joins s⟩, (by intro h; cases h),
        (by intro h; cases h), raises.channels, raises.watches, raises.inputs, raises.banks⟩

end Sys2Proof.Machine
end

section
/-! SUPPORT. The statements about the ports (R177, R178). -/

namespace Sys2Proof.Machine

variable {s t : State} {r : PortRt} {w : LineWord} {p : Port} {words : List LineWord} {c : Instr} {b : Bool}

/-- A port after one line word, and whether it has left UP. -/
def PortRt.hearing (x : PortRt × Bool) (w : LineWord) : PortRt × Bool :=
  (x.1.receive w, x.2 || (x.1.state == .up && (x.1.receive w).state == .down))

theorem receiveWords_stays (h : words.foldl PortRt.hearing (s.port p, false) = (r, false)) :
    s.receiveWords p words = s.withPort p r := by
  have steps : s.receiveWords p words = (let x := words.foldl PortRt.hearing (s.port p, false)
    if x.2 then (s.withPort p x.1).portLeft p 2 else s.withPort p x.1) := rfl
  rw [steps, h]
  rfl

theorem receiveWords_leaves (h : words.foldl PortRt.hearing (s.port p, false) = (r, true)) :
    s.receiveWords p words = (s.withPort p r).portLeft p 2 := by
  have steps : s.receiveWords p words = (let x := words.foldl PortRt.hearing (s.port p, false)
    if x.2 then (s.withPort p x.1).portLeft p 2 else s.withPort p x.1) := rfl
  rw [steps, h]
  rfl

theorem portAligned_row (h : (s.port p).state = .aligning) : exec (.portAligned p words) s = .next (s.receiveWords p words) :=
  congrArg Host.Outcome.next (if_pos h)

theorem portBadWordLimit_row (h : (s.port p).state = .up) :
    exec (.portBadWordLimit p words) s = .next (s.receiveWords p words) := congrArg Host.Outcome.next (if_pos h)

theorem portSignalLoss_row (h : (s.port p).state = .up) :
    exec (.portSignalLoss p) s = .next ((s.withPort p {}).portLeft p 1) := by
  show execPortSignalLoss p s = _
  rw [execPortSignalLoss, h]

/-- The idle words that an ALIGNING port still lacks make it UP. -/
theorem hearing_idle (k : Nat) : ∀ r : PortRt, r.state = .aligning → r.idleRun + (k + 1) = 16 →
    (List.replicate (k + 1) LineWord.idle).foldl PortRt.hearing (r, false) = ({ state := .up }, false) := by
  induction k with
  | zero =>
    intro r hr hk
    simp [PortRt.hearing, PortRt.receive, hr, show r.idleRun + 1 = 16 by omega]
  | succ k ih =>
    intro r hr hk
    have one : PortRt.hearing (r, false) .idle = ({ r with idleRun := r.idleRun + 1 }, false) := by
      simp [PortRt.hearing, PortRt.receive, hr, show r.idleRun + 1 ≠ 16 by omega]
    rw [List.replicate_succ, List.foldl_cons, one]
    exact ih _ hr (by dsimp only; omega)

/-- Good words age the bad ones. -/
theorem hearing_data (n : Nat) : ∀ m, r.state = .up →
    (List.replicate n LineWord.data).foldl PortRt.hearing (r.age m, b) = (r.age (m + n), b) := by
  induction n with
  | zero => intro m _; rfl
  | succ n ih =>
    intro m hr
    have one : PortRt.hearing (r.age m, b) .data = (r.age (m + 1), b) := by
      have up : ∀ k, (r.age k).state = .up := fun _ => hr
      simp [PortRt.hearing, PortRt.receive, up, PortRt.age_age]
    rw [List.replicate_succ, List.foldl_cons, one, ih _ hr]
    congr 2
    omega

/-- A port that has left UP hears no more. -/
theorem hearing_down (k : Nat) (w : LineWord) : (List.replicate k w).foldl PortRt.hearing ({}, true) = ({}, true) := by
  induction k with
  | zero => rfl
  | succ k ih => exact ih

/-- Three bad words at a port that has heard none, `n` good ones, and another bad one. -/
theorem hearing_bad_data (hr : r.state = .up) (hb : r.badAges = []) (n : Nat) :
    ([.bad, .bad, .bad] ++ List.replicate n .data ++ [.bad] : List LineWord).foldl PortRt.hearing (r, false)
      = PortRt.hearing (({ r with badAges := [0, 1, 2] } : PortRt).age n, false) .bad := by
  have three : [LineWord.bad, .bad, .bad].foldl PortRt.hearing (r, false)
      = (({ r with badAges := [0, 1, 2] } : PortRt).age 0, false) := by
    simp [PortRt.hearing, PortRt.receive, PortRt.age, hr, hb]
  have data := hearing_data (r := { r with badAges := [0, 1, 2] }) (b := false) n 0 hr
  rw [List.foldl_append, List.foldl_append, three, data, Nat.zero_add]
  rfl

/-- A bad word at an UP port that counts `m` bad words sends it DOWN, or is counted too. -/
theorem receive_bad (hr : r.state = .up) {m : Nat} (hm : m < 4) (hc : m ≤ r.badAges.countP (· < m)) :
    r.receive .bad = {} ∨ m < 3 ∧ (r.receive .bad).state = .up ∧ m + 1 ≤ (r.receive .bad).badAges.countP (· < m + 1) := by
  have recent : m ≤ (r.age 1).badAges.countP (· < m + 1) := by
    refine hc.trans (le_of_eq ?_)
    simp only [PortRt.age, List.countP_filter, List.countP_map]
    refine List.countP_congr fun a _ => ?_
    simp only [Function.comp_apply, decide_eq_true_eq, Bool.and_eq_true]
    omega
  by_cases full : 4 ≤ (r.age 1).badAges.length + 1
  · exact .inl (by simp [PortRt.receive, hr, full])
  · have kept : r.receive .bad = { r.age 1 with badAges := 0 :: (r.age 1).badAges } := by simp [PortRt.receive, hr, full]
    have few := (r.age 1).badAges.countP_le_length (p := (decide <| · < m + 1))
    refine .inr ⟨by omega, by rw [kept]; exact hr, ?_⟩
    rw [kept, List.countP_cons_of_pos (by simp)]
    omega

/-- Bad words to the fourth send an UP port DOWN. -/
theorem hearing_bad (k : Nat) : ∀ (r : PortRt) (m : Nat), r.state = .up → m + (k + 1) = 4 → m ≤ r.badAges.countP (· < m) →
    (List.replicate (k + 1) LineWord.bad).foldl PortRt.hearing (r, false) = ({}, true) := by
  induction k with
  | zero =>
    intro r m hr hm hc
    obtain h | ⟨h, -⟩ := receive_bad hr (by omega) hc
    · simp [PortRt.hearing, h, hr]
    · omega
  | succ k ih =>
    intro r m hr hm hc
    rw [List.replicate_succ, List.foldl_cons]
    obtain h | ⟨-, up, counted⟩ := receive_bad hr (by omega) hc
    · have left : PortRt.hearing (r, false) .bad = ({}, true) := by simp [PortRt.hearing, h, hr]
      rw [left, hearing_down]
    · have stays : PortRt.hearing (r, false) .bad = (r.receive .bad, false) := by simp [PortRt.hearing, up]
      rw [stays]
      exact ih _ (m + 1) up (by omega) counted

/-- The fourth bad word among 64 sends the port DOWN; where the first of the four is older, the port stays UP. -/
theorem hearing_fourth (hr : r.state = .up) (n : Nat) :
    (n ≤ 60 → PortRt.hearing (({ r with badAges := [0, 1, 2] } : PortRt).age n, false) .bad = ({}, true))
    ∧ (61 ≤ n → ∃ x : PortRt, x.state = .up
      ∧ PortRt.hearing (({ r with badAges := [0, 1, 2] } : PortRt).age n, false) .bad = (x, false)) := by
  generalize hx : ({ r with badAges := [0, 1, 2] } : PortRt) = x
  have up (k : Nat) : (x.age k).state = .up := by rw [← hx]; exact hr
  have ages : (x.age (n + 1)).badAges = [n + 1, n + 2, n + 3].filter (· < 64) := by
    have sums : [0, 1, 2].map (· + (n + 1)) = [n + 1, n + 2, n + 3] := by simp; omega
    rw [← hx]
    exact congrArg (List.filter (decide <| · < 64)) sums
  constructor
  · intro hn
    have all : [n + 1, n + 2, n + 3].filter (decide <| · < 64) = [n + 1, n + 2, n + 3] :=
      List.filter_eq_self.mpr (by simp; omega)
    simp [PortRt.hearing, PortRt.receive, PortRt.age_age, up, ages, all]
  · intro hn
    have old : ¬ 4 ≤ (x.age (n + 1)).badAges.length + 1 := by
      rw [ages]
      simp only [List.filter_cons, List.filter_nil, show ¬ n + 3 < 64 by omega, decide_false]
      split <;> split <;> simp
    exact ⟨(x.age n).receive .bad, by simp [PortRt.receive, PortRt.age_age, up, old],
      by simp [PortRt.hearing, PortRt.receive, PortRt.age_age, up, old]⟩

theorem hear_aligning (h : r.state = .aligning) (n : Nat) : r.hear n = { r with idleRun := 0 } := by simp [PortRt.hear, h]

theorem hear_down (h : r.state = .down) (n : Nat) : r.hear n = r := by simp [PortRt.hear, h]

/-- A frame's words at a port that is not UP, whichever row they are of. -/
theorem frameRow_not_up {f : Frame} (hc : c ∈ frameRows f) (h : s.link.inbound.state ≠ .up) :
    exec c s = .next (s.hearFrame f) := by
  simp only [frameRows, List.mem_cons, List.not_mem_nil, or_false] at hc
  obtain rfl | rfl | rfl | rfl | rfl | rfl | rfl | rfl := hc
  case inr.inr.inr.inr.inr.inr.inr => exact congrArg Host.Outcome.next (if_neg h)
  all_goals exact congrArg Host.Outcome.next (onFrame_not_up h)

/-- Settles O5: each row by the state of its port. -/
theorem portsAlignComeUpAndLeave : Obligations.PortsAlignComeUpAndLeave := by
  refine fun s p => ⟨fun down => congrArg Host.Outcome.next (if_pos down), fun aligning few => ?idles, fun aligning w hw => ?other,
    fun aligning => ?loss, fun f c hc => ⟨fun aligning => ?frame, fun down => ?deaf⟩, fun up => ⟨?left, fun n hn none_ => ?fourth,
    fun n hn none_ => ?late⟩⟩
  case idles =>
    rw [portAligned_row aligning]
    obtain ⟨k, hk⟩ : ∃ k, 16 - (s.port p).idleRun = k + 1 := ⟨15 - (s.port p).idleRun, by omega⟩
    rw [hk, receiveWords_stays (hearing_idle k _ aligning (by omega))]
  case other =>
    rw [portAligned_row aligning, receiveWords_stays]
    simp [PortRt.hearing, PortRt.receive, aligning, hw]
  case loss =>
    show execPortSignalLoss p s = _
    rw [execPortSignalLoss, aligning]
  case frame => rw [frameRow_not_up hc (by rw [aligning]; decide), State.hearFrame, hear_aligning aligning]
  case deaf =>
    rw [frameRow_not_up hc (by rw [down]; decide), State.hearFrame, hear_down down]
    rfl
  case left => exact portSignalLoss_row (p := .outbound) up
  case fourth =>
    have leaves := (hearing_bad_data (r := s.port .outbound) up none_ n).trans ((hearing_fourth up n).1 hn)
    rw [portBadWordLimit_row (p := .outbound) up, receiveWords_leaves leaves]
    rfl
  case late =>
    obtain ⟨x, hx, stays⟩ := (hearing_fourth (r := s.port .outbound) up n).2 hn
    refine ⟨x, hx, ?_⟩
    have words := (hearing_bad_data (r := s.port .outbound) up none_ n).trans stays
    rw [portBadWordLimit_row (p := .outbound) up, receiveWords_stays words]

/-! The Inbound port leaves UP. -/

/-- Both ways in which the Inbound port leaves UP (R177). -/
theorem inboundLeaves (up : s.link.inbound.state = .up)
    (hc : c ∈ [Instr.portSignalLoss .inbound, .portBadWordLimit .inbound [.bad, .bad, .bad, .bad]]) :
    ∃ d, exec c s = .next (((s.withLink { s.link with inbound := {} }).raiseFault linkDown d).trackerLosesLink) := by
  simp only [List.mem_cons, List.not_mem_nil, or_false] at hc
  obtain rfl | rfl := hc
  · exact ⟨1, portSignalLoss_row (p := .inbound) up⟩
  · have leaves := hearing_bad 3 (s.port .inbound) 0 up rfl (Nat.zero_le _)
    exact ⟨2, (portBadWordLimit_row (p := .inbound) up).trans (congrArg Host.Outcome.next (receiveWords_leaves leaves))⟩

theorem trackerLosesLink_of_held (h : s.tracker.state = .missing ∨ ∃ g, s.tracker.state = .locked g) :
    s.trackerLosesLink = s.enterLost 2 := by
  obtain h | ⟨g, h⟩ := h <;> simp [State.trackerLosesLink, h]

theorem trackerLosesLink_of_acquiring (h : s.tracker.state = .acquiring) : s.trackerLosesLink = s.unlockTracker := by
  simp [State.trackerLosesLink, h]

theorem trackerLosesLink_of_out (h : s.tracker.state = .unlocked ∨ s.tracker.state = .lost) : s.trackerLosesLink = s := by
  obtain h | h := h <;> simp [State.trackerLosesLink, h]

/-- What the tracker's loss of the link leaves, whatever its state. -/
theorem trackerLosesLink_keeps (s : State) : s.MayRaise s.trackerLosesLink ∧ s.trackerLosesLink.link = s.link
    ∧ s.trackerLosesLink.agent = s.agent ∧ s.trackerLosesLink.faults.get linkDown = s.faults.get linkDown := by
  unfold State.trackerLosesLink
  split
  · exact ⟨.enterLost s 2, by simp, by simp, faults_enterLost_ne (by decide) (by decide) (by decide) s 2⟩
  · exact ⟨.enterLost s 2, by simp, by simp, faults_enterLost_ne (by decide) (by decide) (by decide) s 2⟩
  · exact ⟨.withTracker s _, rfl, rfl, rfl⟩
  · exact ⟨.refl s, rfl, rfl, rfl⟩
  · exact ⟨.refl s, rfl, rfl, rfl⟩

theorem trackerLosesLink_intake (h : s.tracker.state ≠ .missing) (h' : ∀ g, s.tracker.state ≠ .locked g) :
    s.trackerLosesLink.intake = s.intake := by
  unfold State.trackerLosesLink
  split
  · rename_i g; exact absurd g (h' _)
  · rename_i g; exact absurd g h
  · rfl
  · rfl
  · rfl

/-- Settles O6: the fault, and then the tracker's loss by its state. -/
theorem inboundPortLossRaisesLinkDown : Obligations.InboundPortLossRaisesLinkDown := by
  intro s up c hc
  obtain ⟨d, row⟩ := inboundLeaves up hc
  obtain ⟨x, hx⟩ : ∃ x, x = (s.withLink { s.link with inbound := {} }).raiseFault linkDown d := ⟨_, rfl⟩
  rw [← hx] at row
  have raised : s.MayRaise x := by rw [hx]; exact (State.MayRaise.withLink s _).trans (.raiseFault _ _ _)
  obtain ⟨kept, link, agent, fault⟩ := trackerLosesLink_keeps x
  have raises := raised.trans kept
  have place : x.trackerLosesLink.faults.get linkDown = ⟨true, satInc 65535 (s.faults.get linkDown).raises⟩ := by
    rw [fault, hx, faults_raiseFault (by decide)]
    rfl
  have tracker : x.tracker = s.tracker := by simp [hx]
  have intake : x.intake = s.intake := by simp [hx]
  have stamp : x.stampNow = s.stampNow := by simp [State.stampNow, hx]
  rw [← tracker, ← intake, ← stamp]
  refine ⟨_, row, by rw [link]; simp [hx], by rw [State.flag, place], by rw [place], fun held => ?_, fun acquiring => ?_,
    fun out => by rw [trackerLosesLink_of_out out], fun held => ?_, fun h h' => trackerLosesLink_intake h h',
    fun running listed => ?_, raises.channels, raises.watches, raises.inputs, raises.banks, by rw [agent]; simp [hx], fun h => ?_⟩
  · rw [trackerLosesLink_of_held held]
    exact ⟨by rw [tracker_enterLost], by rw [State.flag, faults_enterLost]⟩
  · rw [trackerLosesLink_of_acquiring acquiring]; rfl
  · rw [trackerLosesLink_of_held held]; exact enterLost_joins x 2
  · obtain ⟨after, left⟩ := raiseFault_disarms (s.withLink { s.link with inbound := {} }) linkDown d running listed
    have disarmed : x.engine = .disarmed := by rw [hx, after, State.cleanup_engine, left]
    rw [kept.engine_of_ne (by rw [disarmed]; decide), disarmed]
  · have same := raises.engine_of_ne h
    exact ⟨same, raises.units same⟩

end Sys2Proof.Machine
end

section
/-! SUPPORT. The statements about a full Intake Queue and a full Forward Buffer (R5, R6, R182). -/

namespace Sys2Proof.Machine

variable {s t u w : State} {f : Frame} {v : FrameView} {n : BitVec 16} {p : Nat} {c : Counter} {j k : Fin 6} {e x : Event}

/-! A full Intake Queue. -/

theorem offerOrdinary_full (h : s.intake.length = 16) (e : Event) : s.offerOrdinary e = s.dropEvent e :=
  if_neg (by rw [h]; decide)

theorem forward_dropEvent (s : State) (e : Event) : (s.dropEvent e).forward
    = match e.frameId with | some id => s.forward.release id | none => s.forward := by
  have raised : ((s.bump .intakeDrop).raiseFault eventOverrun e.code).forward = s.forward := by simp
  unfold State.dropEvent State.releaseEvent
  split <;> simp [*]

theorem forward_dropEvent_frame {id : Nat} (h : e.frameId = some id) (s : State) :
    (s.dropEvent e).forward = s.forward.release id := by
  rw [forward_dropEvent, h]

theorem forward_dropEvent_other (h : e.frameId = none) (s : State) : (s.dropEvent e).forward = s.forward := by
  rw [forward_dropEvent, h]

/-- A dropped event raises EVENT_OVERRUN with what it makes of the engine (R5, R159). -/
theorem engine_dropEvent (running : s.engine = .running) (listed : s.inDisarmSet eventOverrun = true) (e : Event) :
    (s.dropEvent e).engine = .disarmed := by
  obtain ⟨after, left⟩ := raiseFault_disarms (s.bump .intakeDrop) eventOverrun e.code running listed
  rw [State.dropEvent, State.releaseEvent_engine, after, State.cleanup_engine, left]

/-- `c` gives the cycle event `x` to the Intake Queue, with `w` the state in which it is offered and `t` the state in the end. -/
structure State.Offers (s : State) (c : Instr) (x : Event) (w t : State) : Prop where
  row : exec c s = .next t
  queue : w.intake = s.intake
  drops : w.counter .intakeDrop = s.counter .intakeDrop
  intake : t.intake = (w.offerCycle x).intake
  fault : t.faults.get eventOverrun = (w.offerCycle x).faults.get eventOverrun
  counter : t.counter .intakeDrop = (w.offerCycle x).counter .intakeDrop
  forward : t.forward = (w.offerCycle x).forward

/-- A cycle event displaces the newest ordinary event of a full queue (R6). -/
theorem State.Offers.displaces {c : Instr} {a b : List Event} {d : Event} (o : s.Offers c x w t) (full : s.intake.length = 16)
    (hs : s.intake = a ++ d :: b) (hd : d.ordinary = true) (hb : ∀ e ∈ b, e.ordinary = false) :
    t.intake = a ++ b ++ [x] ∧ t.flag eventOverrun = true ∧ t.counter .intakeDrop = satInc 4294967295 (s.counter .intakeDrop)
      ∧ ∀ id, d.frameId = some id → ∀ y ∈ t.forward.frames, y.id = id → y.held = false := by
  have offered := offerCycle_displaces (s := w) (by rw [o.queue]; exact full) (o.queue.trans hs) hd hb x
  refine ⟨?_, ?_, ?_, fun id hid y hy same => ?_⟩
  · rw [o.intake, offered]; simp [State.appendEvent]
  · have fault := faults_dropEvent (w.withIntake (a ++ b)) d
    rw [State.flag, o.fault, offered]
    exact congrArg FaultPlace.flag fault
  · rw [o.counter, offered, ← o.drops]
    exact counter_dropEvent (w.withIntake (a ++ b)) d
  · rw [o.forward, offered] at hy
    have released := forward_dropEvent_frame hid (w.withIntake (a ++ b))
    rw [State.appendEvent, State.forward_withIntake, released] at hy
    obtain ⟨z, -, rfl⟩ := List.mem_map.mp hy
    by_cases own : z.id = id
    · rw [if_pos own]
    · rw [if_neg own] at same; exact absurd same own

/-- A cycle event is dropped at a full queue without an ordinary event (R6). -/
theorem State.Offers.dropped {c : Instr} (o : s.Offers c x w t) (full : s.intake.length = 16)
    (none_ : ∀ e ∈ s.intake, e.ordinary = false) : t.intake = s.intake ∧ t.flag eventOverrun = true
      ∧ t.counter .intakeDrop = satInc 4294967295 (s.counter .intakeDrop) := by
  have offered := offerCycle_drops (s := w) (by rw [o.queue]; exact full) (by rw [o.queue]; exact none_) x
  refine ⟨by rw [o.intake, offered, State.dropEvent_intake, o.queue], ?_, ?_⟩
  · rw [State.flag, o.fault, offered, faults_dropEvent]
  · rw [o.counter, offered, counter_dropEvent, o.drops]

/-- The close that a Cycle Close gives. -/
theorem cycleClose_offers (h : s.Arrives f v) (hc : closeGiven v = true) (process : s.tracker.state = .locked .process) :
    ∃ w t, s.Offers (.cycleCloseFrame f) (.cycleClose s.stampNow) w t := by
  have row := cycleClose_row h hc
  obtain ⟨u, hu⟩ : ∃ u, u = (s.receive f).appendFrame f false := ⟨_, rfl⟩
  rw [← hu, takeClose_process (by rw [hu]; exact process)] at row
  obtain ⟨c, form, kept, -⟩ := countClose_eq u v.cycle
  have stamp : (u.countClose v.cycle).stampNow = s.stampNow := by rw [form, hu]; rfl
  have closed := closeSegment_eq (u.countClose v.cycle)
  rw [stamp] at closed
  refine ⟨(u.countClose v.cycle).opened, _, row, by rw [form, hu]; rfl, ?_, by rw [closed]; rfl, by rw [closed]; rfl,
    by rw [closed]; rfl, by rw [closed]; rfl⟩
  exact (kept _ (by decide)).trans (by rw [hu]; exact counter_bump_ne (s.hearFrame f) (by decide))

/-- The Start in the OPEN segment or in MISSING, which implies no close. -/
theorem cycleStart_offers (h : s.Arrives f v) (hp : startPeriod v = some p)
    (state : s.tracker.state = .locked .openSeg ∨ s.tracker.state = .missing) :
    ∃ w t, s.Offers (.cycleStartFrame f) (.cycleStart v.cycle ⟨v.cycle, 0⟩) w t := by
  have row := cycleStart_row h hp
  obtain ⟨u, hu⟩ : ∃ u, u = (s.receive f).appendFrame f false := ⟨_, rfl⟩
  have tracker : u.tracker = s.tracker := by rw [hu]; rfl
  have lone : u.closed = u := closed_of_ne (by rw [tracker]; obtain h | h := state <;> simp [h])
  have locks : stateAfterStart u.tracker v.cycle p = .locked .process := by
    rw [tracker]; obtain h | h := state <;> simp [stateAfterStart, h]
  obtain ⟨w, started, taken⟩ := takeStart_eq u v.cycle p
  rw [if_pos locks] at taken
  rw [← hu, taken] at row
  refine ⟨w, _, row, ?_, ?_, rfl, rfl, rfl, rfl⟩
  · rw [started.intake, lone, hu]; rfl
  · rw [started.others _ (by decide) (by decide), lone, hu]
    exact counter_bump_ne (s.hearFrame f) (by decide)

/-- The loss that the timeout in MISSING gives. -/
theorem trackerTimeout_offers {d : Nat} (hd : s.tracker.timeoutAt = some d) (due : d ≤ s.now)
    (missing : s.tracker.state = .missing) : ∃ w t, s.Offers .trackerTimeout (.cycleLost s.stampNow) w t := by
  have row := trackerTimeout_row hd due
  have lost : s.trackerExpires d = s.enterLost 1 := by simp [State.trackerExpires, missing]
  rw [lost] at row
  refine ⟨s.withTracker { s.tracker with state := .lost, timeoutAt := none }, _, row, rfl, rfl, ?_, ?_, ?_, ?_⟩
  · rw [State.enterLost, State.raiseFault_intake]; rfl
  · rw [State.enterLost, faults_raiseFault_ne (by decide) (by decide)]; rfl
  · rw [State.enterLost, counter_raiseFault _ _ _ (by decide)]; rfl
  · rw [State.enterLost, State.raiseFault_forward]; rfl

/-- Settles O19: the drop by what a raise keeps, then each event by how it comes. -/
theorem fullIntakeQueueDrops : Obligations.FullIntakeQueueDrops := by
  refine ⟨fun s e => ?drop, fun s f v p h hp process => ?start, fun s full => ⟨fun f v h hk timely wanted => ?frame,
    fun k valid running elapsed fresh => ?timer, fun k m since due watched => ?edge, fun c x cases_ => ?cycle⟩⟩
  case drop =>
    have raises := State.MayRaise.dropEvent s e
    have fault := faults_dropEvent s e
    exact ⟨by simp, counter_dropEvent s e, by rw [State.flag, fault], by rw [fault], fun h => forward_dropEvent_other h s,
      fun id h => forward_dropEvent_frame h s, fun running listed => engine_dropEvent running listed e, raises.engine_of_ne,
      raises.channels, raises.watches, raises.inputs, by simp, by simp, raises.banks, by simp,
      fun c drop lost => counter_dropEvent_ne drop lost s e, raises.units⟩
  case start =>
    obtain ⟨u, hu⟩ : ∃ u, u = (s.receive f).appendFrame f false := ⟨_, rfl⟩
    have tracker : u.tracker = s.tracker := by rw [hu]; rfl
    have close := impliedClose_joins u
    have locks : stateAfterStart u.tracker v.cycle p = .locked .process := by simp [tracker, stateAfterStart, process]
    have joins := (takeStart_joins u v.cycle p).1 locks
    rw [closed_of_process (by rw [tracker]; exact process)] at joins
    refine ⟨_, u.impliedClose.intake, hu ▸ cycleStart_row h hp, ?_, joins⟩
    have intake : u.intake = s.intake := by rw [hu]; rfl
    have stamp : u.stampNow = s.stampNow := by rw [hu]; rfl
    rwa [intake, stamp] at close
  case frame =>
    have row : exec (.processFrame f) s = .next ((s.receive f).takeProcess f v) :=
      congrArg Host.Outcome.next (onFrame_arrives h (by simp [hk]))
    have on_time : (s.receive f).timely v = true := timely
    have asked : (s.receive f).wanted v.source = true := wanted
    have room : (s.receive f).bufferRoom = true := h.bufferRoom
    rw [row, State.takeProcess, on_time, asked, room]
    exact congrArg Host.Outcome.next (offerOrdinary_full (s := (s.receive f).appendFrame f true) full _)
  case timer =>
    rw [timerExpiry_row valid running elapsed fresh]
    exact congrArg Host.Outcome.next (offerOrdinary_full (by exact full) _)
  case edge =>
    rw [inputEdgeAccept_row since due, acceptInput_eq, watched]
    exact congrArg Host.Outcome.next (offerOrdinary_full (by exact full) _)
  case cycle =>
    obtain ⟨w, t, o⟩ : ∃ w t, s.Offers c x w t := by
      obtain ⟨f, v, h, hc, process, rfl, rfl⟩ | ⟨f, v, p, h, hp, state, rfl, rfl⟩ | ⟨d, hd, due, missing, rfl, rfl⟩ := cases_
      · exact cycleClose_offers h hc process
      · exact cycleStart_offers h hp state
      · exact trackerTimeout_offers hd due missing
    exact ⟨fun a d b hs hd hb => ⟨t, o.row, o.displaces full hs hd hb⟩, fun none_ => ⟨t, o.row, o.dropped full none_⟩⟩

end Sys2Proof.Machine
end

section
/-! SUPPORT. The statements about a full Forward Buffer and about a broadcast ENGINE_STOP (R17, R173, R182). -/

namespace Sys2Proof.Machine

variable {s t u w : State} {f : Frame} {v : FrameView} {n : BitVec 16} {p : Nat} {c : Counter} {j k : Fin 6} {q : Request}

/-! The engine and the firing where a fault is raised. -/

theorem engine_offerRecord_of_calm (h : s.inDisarmSet reportLoss = false) (st : Stamp) (b : RecordBody) :
    (s.offerRecord st b).engine = s.engine := by
  by_cases room : s.report.hasRoom b = true
  · rw [offerRecord_room st b room]; rfl
  · rw [offerRecord_lost room]
    cases flag : s.flag reportLoss with
    | true => rw [lose_of_flag flag]; rfl
    | false =>
      have calm : s.countLoss.inDisarmSet reportLoss = false := h
      rw [lose_of_clear flag, engine_offerLoss, if_neg (by simp [calm])]
      rfl

/-- Neither the fault nor the loss of its record takes the engine out of RUNNING (R159). -/
theorem engine_raiseFault_of_calm (h : s.inDisarmSet k = false) (hl : s.inDisarmSet reportLoss = false) (d : Nat) :
    (s.raiseFault k d).engine = s.engine := by
  have calm (v : State) (hv : v.banks = s.banks) : (v.disarmFor k).engine = v.engine := by
    have still : v.inDisarmSet k = false := by unfold State.inDisarmSet; rw [hv]; exact h
    rw [engine_disarmFor, if_neg (by simp [still])]
  rw [State.raiseFault, engine_settle, State.raiseRaw]
  split
  · exact calm (s.setFault k) rfl
  · exact (calm _ (by simp)).trans (engine_offerRecord_of_calm (s := s.setFault k) hl _ _)

theorem engine_overrun_of_calm (h : s.engine ≠ .running ∨ s.inDisarmSet forwardOverrun = false ∧ s.inDisarmSet reportLoss = false)
    (f : Frame) : (s.overrun f).engine = s.engine := by
  obtain h | ⟨h, hl⟩ := h
  · exact (State.MayRaise.overrun s f).engine_of_ne h
  · rw [State.overrun, State.spend_engine]
    exact engine_raiseFault_of_calm (s := s.bump .forwardDiscard) h hl _

theorem midFiring_congr (h : t.burst = s.burst) : t.midFiring = s.midFiring := by unfold State.midFiring; rw [h]

/-- A raise leaves the burst, or ends its firing (R18). -/
theorem midFiring_raiseFault (s : State) (k : Fin 6) (d : Nat) :
    (s.raiseFault k d).midFiring = s.midFiring ∨ (s.raiseFault k d).midFiring = false := by
  have raw : (s.raiseRaw k d).burst = s.burst := by simp
  unfold State.raiseFault settle
  split
  · refine .inr ?_
    have interrupted : (s.raiseRaw k d).cleanup.burst = s.burst.map Burst.interrupt := by simp
    unfold State.midFiring
    rw [interrupted]
    cases s.burst <;> rfl
  · exact .inl (midFiring_congr raw)

theorem midFiring_overrun (s : State) (f : Frame) :
    (s.overrun f).midFiring = s.midFiring ∨ (s.overrun f).midFiring = false :=
  midFiring_raiseFault (s.bump .forwardDiscard) forwardOverrun _

/-! A discarded frame. -/

/-- `t` comes of `s` by the discard of one frame, and by work that has to do with no other (R182). -/
structure State.Discards (s t : State) : Prop where
  frames : t.forward.frames.map (fun b => (b.id, b.bytes)) = s.forward.frames.map fun b => (b.id, b.bytes)
  fault : t.faults.get forwardOverrun = ⟨true, satInc 65535 (s.faults.get forwardOverrun).raises⟩
  discard : t.counter .forwardDiscard = satInc 4294967295 (s.counter .forwardDiscard)
  framesIn : t.counter .framesIn = s.counter .framesIn

/-- `t` comes of `s` by work that has to do with no frame. -/
structure State.OtherWork (s t : State) : Prop where
  frames : t.forward.frames.map (fun b => (b.id, b.bytes)) = s.forward.frames.map fun b => (b.id, b.bytes)
  fault : t.faults.get forwardOverrun = s.faults.get forwardOverrun
  discard : t.counter .forwardDiscard = s.counter .forwardDiscard
  framesIn : t.counter .framesIn = s.counter .framesIn

theorem overrun_discards (s : State) (f : Frame) : s.Discards (s.overrun f) :=
  ⟨(State.MayRaise.overrun s f).frames, faults_overrun s f, counter_overrun s f,
    counter_overrun_ne (by decide) (by decide) s f⟩

theorem State.Discards.after (d : u.Discards t) (o : s.OtherWork u) : s.Discards t :=
  ⟨d.frames.trans o.frames, by rw [d.fault, o.fault], by rw [d.discard, o.discard], d.framesIn.trans o.framesIn⟩

theorem State.Discards.before (d : s.Discards u) (o : u.OtherWork t) : s.Discards t :=
  ⟨o.frames.trans d.frames, o.fault.trans d.fault, o.discard.trans d.discard, o.framesIn.trans d.framesIn⟩

theorem State.OtherWork.refl (s : State) : s.OtherWork s := ⟨rfl, rfl, rfl, rfl⟩

theorem bump_otherWork (hd : c ≠ .forwardDiscard) (hi : c ≠ .framesIn) (s : State) : s.OtherWork (s.bump c) :=
  ⟨rfl, rfl, counter_bump_ne s hd, counter_bump_ne s hi⟩

theorem takeStart_otherWork (s : State) (n : BitVec 16) (p : Nat) : s.OtherWork (s.takeStart n p) :=
  ⟨(takeStart_mayRaise s n p).frames, faults_takeStart_ne (by decide) (by decide) s n p,
    counter_takeStart_ne (by decide) s n p, counter_takeStart_ne (by decide) s n p⟩

theorem takeClose_otherWork (s : State) (n : BitVec 16) : s.OtherWork (s.takeClose n) := by
  by_cases process : s.tracker.state = .locked .process
  · obtain ⟨c, form, kept, -⟩ := countClose_eq s n
    rw [takeClose_process process]
    refine ⟨?_, ?_, ?_, ?_⟩
    · rw [(State.MayRaise.closeSegment _).frames, form]; rfl
    · rw [faults_closeSegment_ne (by decide) (by decide), form]; rfl
    · rw [counter_closeSegment_ne (by decide) (by decide), kept _ (by decide)]
    · rw [counter_closeSegment_ne (by decide) (by decide), kept _ (by decide)]
  · by_cases openSeg : s.tracker.state = .locked .openSeg
    · rw [takeClose_openSeg openSeg]; exact bump_otherWork (by decide) (by decide) s
    · rw [takeClose_of_ne]
      · exact .refl s
      · intro g
        cases g with
        | process => exact process
        | openSeg => exact openSeg

theorem takeBroadcast_otherWork (s : State) (q : Request) : s.OtherWork (s.takeBroadcast q) := by
  unfold State.takeBroadcast
  split
  · exact ⟨by simp, by simp, by simp [State.counter], by simp [State.counter]⟩
  · exact bump_otherWork (by decide) (by decide) s

theorem enter_full (h : s.bufferRoom = false) (f : Frame) : s.enter f = s.overrun f := if_neg (by simp [h])

theorem enterAnd_discards (h : s.bufferRoom = false) (f : Frame) {given : State → State}
    (o : ∀ u : State, u.OtherWork (given u)) : s.Discards (s.enterAnd f given) := by
  obtain h | h := enterAnd_full s f given h
  · rw [h]; exact (overrun_discards s f).before (o _)
  · rw [h]; exact (overrun_discards _ f).after (o _)

/-- A frame that takes part in Figure 12-1 as one that is forwarded meets a full buffer. -/
theorem forwards_discards {c : Instr} (full : s.bufferRoom = false) (up : s.link.inbound.state = .up) (h : s.Forwards c f) :
    ∃ t, exec c s = .next t ∧ (s.receive f).Discards t := by
  have received {v : FrameView} {mine : FrameView → Bool} {run : FrameView → State → State} (good : goodFrame f = some v)
      (hm : mine v = true) : onFrame f mine run s = run v (s.receive f) := by simp [onFrame, good, up, hm]
  have full : (s.receive f).bufferRoom = false := full
  have entered : (s.receive f).Discards ((s.receive f).enter f) := by rw [enter_full full]; exact overrun_discards _ f
  obtain ⟨v, good, ⟨rfl, kind⟩ | ⟨rfl, kind⟩ | ⟨rfl, kind⟩ | ⟨rfl, mine⟩ | ⟨rfl, mine⟩⟩ | ⟨rfl, bad⟩ := h
  · refine ⟨_, congrArg Host.Outcome.next (received good (by simp [kind])), ?_⟩
    split
    · exact enterAnd_discards full f fun u => takeStart_otherWork u _ _
    · exact entered
  · refine ⟨_, congrArg Host.Outcome.next (received good (by simp [kind])), ?_⟩
    split
    · exact enterAnd_discards full f fun u => takeClose_otherWork u _
    · exact entered
  · refine ⟨_, congrArg Host.Outcome.next (received good (by simp [kind])), ?_⟩
    unfold State.takeProcess
    rw [full, Bool.and_false, if_neg Bool.false_ne_true]
    split
    · exact entered
    · rw [enter_full (s := (s.receive f).bump .lateFrame) full]
      exact (overrun_discards _ f).after (bump_otherWork (by decide) (by decide) _)
  · exact ⟨_, congrArg Host.Outcome.next (received good mine), enterAnd_discards full f fun u => takeBroadcast_otherWork u _⟩
  · exact ⟨_, congrArg Host.Outcome.next (received good mine), entered⟩
  · refine ⟨_, congrArg Host.Outcome.next ((if_pos up).trans (if_pos bad)), ?_⟩
    rw [enter_full (s := (s.receive f).bump .badCheck) full]
    exact (overrun_discards _ f).after (bump_otherWork (by decide) (by decide) _)

/-! What is given to another block all the same. -/

/-- `t` comes of `s` by the arrival of a frame's words, or by the discard of the frame: what another block's work on the frame
finds of `s`, and leaves of its own to `t`. -/
structure State.Aside (s t : State) : Prop where
  tracker : t.tracker = s.tracker
  now : t.now = s.now
  intake : t.intake = s.intake
  budget : t.link.budget = s.link.budget
  inserted : t.link.inserted = s.link.inserted
  clock : s.KeepsClock t
  counters : ∀ c, c ∉ [Counter.forwardDiscard, .framesIn, .reportLost] → t.counter c = s.counter c
  raises : s.MayRaise t
  mid : t.midFiring = s.midFiring ∨ t.midFiring = false
  calm : s.engine ≠ .running ∨ s.inDisarmSet forwardOverrun = false ∧ s.inDisarmSet reportLoss = false → t.engine = s.engine

namespace State.Aside

theorem refl (s : State) : s.Aside s :=
  ⟨rfl, rfl, rfl, rfl, rfl, .refl s, fun _ _ => rfl, .refl s, .inl rfl, fun _ => rfl⟩

theorem receive (s : State) (f : Frame) : s.Aside (s.receive f) :=
  ⟨rfl, rfl, rfl, rfl, rfl, ⟨rfl, rfl, rfl, rfl⟩, fun c h => counter_bump_ne (s.hearFrame f) (by rintro rfl; simp at h),
    ⟨.inl rfl, fun _ => ⟨rfl, rfl, rfl, rfl, rfl, rfl⟩, rfl, rfl, rfl, rfl, rfl⟩, .inl rfl, fun _ => rfl⟩

theorem overrun (a : s.Aside u) (h : ∀ k, u.inDisarmSet k = s.inDisarmSet k) (he : u.engine = s.engine) (f : Frame) :
    s.Aside (u.overrun f) where
  tracker := by rw [State.overrun_tracker, a.tracker]
  now := by rw [State.overrun_now, a.now]
  intake := by rw [State.overrun_intake, a.intake]
  budget := by rw [State.overrun_link, a.budget]
  inserted := by rw [State.overrun_link, a.inserted]
  clock := a.clock.trans (overrun_keepsClock u f)
  counters c hc := by
    rw [counter_overrun_ne (by rintro rfl; simp at hc) (by rintro rfl; simp at hc), a.counters c hc]
  raises := a.raises.trans (.overrun u f)
  mid := by
    obtain h | h := midFiring_overrun u f
    · rw [h]; exact a.mid
    · exact .inr h
  calm g := by
    rw [engine_overrun_of_calm (by rw [h, h, he]; exact g), he]

theorem stamp (a : s.Aside t) : t.stampNow = s.stampNow := by unfold State.stampNow; rw [a.tracker, a.now]

end State.Aside

/-- The other block's work on a frame that meets a full buffer (R180, R182). -/
theorem enterAnd_aside (full : s.bufferRoom = false) (f : Frame) (given : State → State) :
    ∃ y, s.Aside y ∧ (given y).Aside ((s.receive f).enterAnd f given) := by
  obtain h | h := enterAnd_full (s.receive f) f given full
  · exact ⟨_, (State.Aside.receive s f).overrun (fun _ => rfl) rfl f, h ▸ .refl _⟩
  · exact ⟨_, .receive s f, h ▸ (State.Aside.refl _).overrun (fun _ => rfl) rfl f⟩

/-- A Start at a full buffer. -/
theorem cycleStart_full (full : s.bufferRoom = false) (up : s.link.inbound.state = .up) (good : goodFrame f = some v)
    (hp : startPeriod v = some p) :
    ∃ y t, s.Aside y ∧ (y.takeStart v.cycle p).Aside t ∧ exec (.cycleStartFrame f) s = .next t := by
  obtain ⟨y, before, after⟩ := enterAnd_aside full f fun s => s.takeStart v.cycle p
  refine ⟨y, _, before, after, congrArg Host.Outcome.next ?_⟩
  simp [onFrame, good, up, kind_of_startPeriod hp, hp]

/-- A close at a full buffer. -/
theorem cycleClose_full (full : s.bufferRoom = false) (up : s.link.inbound.state = .up) (good : goodFrame f = some v)
    (hc : closeGiven v = true) : ∃ y t, s.Aside y ∧ (y.takeClose v.cycle).Aside t ∧ exec (.cycleCloseFrame f) s = .next t := by
  obtain ⟨y, before, after⟩ := enterAnd_aside full f fun s => s.takeClose v.cycle
  have kind : v.kind = kindCycleClose := by
    unfold closeGiven at hc
    simpa using (Bool.and_eq_true_iff.mp hc).1
  refine ⟨y, _, before, after, congrArg Host.Outcome.next ?_⟩
  simp [onFrame, good, up, kind, hc]

/-- A broadcast request at a full buffer. -/
theorem broadcast_full (full : s.bufferRoom = false) (up : s.link.inbound.state = .up) (good : goodFrame f = some v)
    (hb : s.isBroadcast v = true) : ∃ y t, s.Aside y ∧ (y.takeBroadcast ⟨v.source, v.body⟩).Aside t
      ∧ exec (.broadcastManagementFrame f) s = .next t := by
  obtain ⟨y, before, after⟩ := enterAnd_aside full f fun s => s.takeBroadcast ⟨v.source, v.body⟩
  refine ⟨y, _, before, after, congrArg Host.Outcome.next ?_⟩
  simp [onFrame, good, up, hb]

theorem broadcastStop_of_midFiring (mid : s.midFiring = true) :
    s.broadcastStop = s.withAgent { s.agent with stopClaim := true } := if_pos mid

/-- A broadcast ENGINE_STOP outside a firing is taken at once (R173). -/
theorem broadcastStop_now (mid : s.midFiring = false) : s.broadcastStop.engine = .stopped
    ∧ s.broadcastStop.agent = { s.agent with stopClaim := false } := by
  have taken : s.broadcastStop = ((s.withAgent { s.agent with stopClaim := true }).withAgent
      { s.agent with stopClaim := false }).stopEngine := by
    rw [State.broadcastStop, mid]
    exact takeStopClaim_of_stop (u := s.withAgent { s.agent with stopClaim := true }) rfl
  rw [taken]
  exact ⟨engine_stopEngine _, State.stopEngine_agent _⟩

theorem takeBroadcast_stop (h : q.isStop = true) (s : State) : s.takeBroadcast q = s.broadcastStop := if_pos h

theorem takeBroadcast_other (h : q.isStop = false) (s : State) : s.takeBroadcast q = s.bump .broadcastIgnored :=
  if_neg (ne_true_of_eq_false h)

/-- A close outside the PROCESS segment. -/
theorem takeClose_elsewhere (h : s.tracker.state ≠ .locked .process) (n : BitVec 16) :
    (s.takeClose n).tracker = s.tracker ∧ (s.takeClose n).intake = s.intake ∧ (s.takeClose n).agent = s.agent := by
  by_cases openSeg : s.tracker.state = .locked .openSeg
  · rw [takeClose_openSeg openSeg]; exact ⟨rfl, rfl, rfl⟩
  · rw [takeClose_of_ne (fun g => by cases g <;> assumption)]; exact ⟨rfl, rfl, rfl⟩

theorem extraClose_takeClose (s : State) (n : BitVec 16) : (s.takeClose n).counter .extraClose
    = if s.tracker.state = .locked .openSeg then satInc 4294967295 (s.counter .extraClose) else s.counter .extraClose := by
  by_cases openSeg : s.tracker.state = .locked .openSeg
  · rw [if_pos openSeg, takeClose_openSeg openSeg, counter_bump_self]
  · rw [if_neg openSeg]
    by_cases process : s.tracker.state = .locked .process
    · obtain ⟨c, -, kept, -⟩ := countClose_eq s n
      rw [takeClose_process process, counter_closeSegment_ne (by decide) (by decide), kept _ (by decide)]
    · rw [takeClose_of_ne (fun g => by cases g <;> assumption)]

/-- Settles O12: the discard, and beside it what the row's other block does. -/
theorem fullForwardBufferDiscards : Obligations.FullForwardBufferDiscards := by
  intro s f eight
  have full : s.bufferRoom = false := by simp [State.bufferRoom, Config.forwardSize, eight]
  have full_in : (s.receive f).bufferRoom = false := full
  refine ⟨?entered, fun c up h => ?discarded, fun v up good => ⟨fun p hp => ?start, fun hc => ?close, fun hb => ?broadcast,
    fun hk => ?process⟩⟩
  case entered =>
    rw [enter_full full, State.flag, faults_overrun]
    exact ⟨by simp, rfl, counter_overrun s f⟩
  case discarded =>
    obtain ⟨t, row, d⟩ := forwards_discards full up h
    refine ⟨t, row, d.frames, by rw [State.flag, d.fault], by rw [d.fault]; rfl, ?_, ?_⟩
    · rw [d.discard]
      exact congrArg _ (counter_bump_ne (s.hearFrame f) (by decide))
    · rw [d.framesIn]
      exact counter_bump_self (s.hearFrame f) .framesIn
  case start =>
    obtain ⟨y, t, a, b, row⟩ := cycleStart_full full up good hp
    have tracker : t.tracker = y.trackerAfterStart v.cycle p := by rw [b.tracker, tracker_takeStart]
    have state : t.tracker.state = stateAfterStart s.tracker v.cycle p := by rw [tracker, ← a.tracker]; rfl
    have joins := takeStart_joins y v.cycle p
    rw [a.tracker, ← state, ← b.intake] at joins
    have implied : t.counter .impliedClose = (y.takeStart v.cycle p).counter .impliedClose := b.counters _ (by decide)
    rw [impliedClose_takeStart, a.tracker, a.counters _ (by decide)] at implied
    refine ⟨t, y.closed.intake, row, state, by rw [tracker]; rfl, by rw [tracker, ← a.now]; rfl, by rw [tracker]; rfl,
      by rw [tracker, ← a.now]; rfl, fun process => ⟨by rw [implied, if_pos process], ?_, ?_⟩,
      fun other => ⟨by rw [implied, if_neg other], ?_⟩, joins⟩
    · exact .between a.clock (takeStart_countsClose (by rw [a.tracker]; exact process) v.cycle p) b.clock
    · have close := impliedClose_joins y
      rwa [a.stamp, a.intake, ← closed_of_process (by rw [a.tracker]; exact process)] at close
    · rw [closed_of_ne (by rw [a.tracker]; exact other), a.intake]
  case close =>
    obtain ⟨y, t, a, b, row⟩ := cycleClose_full full up good hc
    refine ⟨t, row, fun process => ?_, fun other => ?_, ?_⟩
    · obtain ⟨c, form, -⟩ := countClose_eq y v.cycle
      have process : y.tracker.state = .locked .process := by rw [a.tracker]; exact process
      rw [takeClose_process process] at b
      have joins := closeSegment_joins (y.countClose v.cycle)
      have opened := link_closeSegment (y.countClose v.cycle)
      have stamp : (y.countClose v.cycle).stampNow = s.stampNow := by rw [← a.stamp, form]; rfl
      have intake : (y.countClose v.cycle).intake = s.intake := by rw [← a.intake, form]; rfl
      have tracker : (y.countClose v.cycle).tracker = s.tracker := by rw [← a.tracker, form]; rfl
      have banks : (y.countClose v.cycle).banks = s.banks := by rw [← a.clock.banks, form]; rfl
      rw [stamp, intake, ← b.intake] at joins
      refine ⟨by rw [b.tracker, tracker_closeSegment, tracker], by rw [b.budget, opened, banks], by rw [b.inserted, opened],
        ?_, joins⟩
      exact .between (s1 := y.countClose v.cycle) (a.clock.trans (by rw [form]; exact ⟨rfl, rfl, rfl, rfl⟩))
        (closeSegment_countsClose _) b.clock
    · obtain ⟨tracker, intake, agent⟩ := takeClose_elsewhere (by rw [a.tracker]; exact other) v.cycle
      exact ⟨by rw [b.tracker, tracker, a.tracker], by rw [b.intake, intake, a.intake],
        by rw [b.clock.agent, agent, a.clock.agent]⟩
    · rw [b.counters _ (by decide), extraClose_takeClose, a.counters _ (by decide), a.tracker]
  case broadcast =>
    obtain ⟨y, t, a, b, row⟩ := broadcast_full full up good hb
    have agent := a.clock.agent
    refine ⟨t, row, ?_, fun stop mid => ?_, fun stop mid => ?_, fun other => ?_⟩
    · rw [b.intake, ← a.intake]
      unfold State.takeBroadcast
      split <;> simp
    · rw [takeBroadcast_stop stop] at b
      obtain ⟨stopped, taken⟩ := broadcastStop_now (s := y) (by obtain h | h := a.mid <;> simp [h, mid])
      exact ⟨by rw [b.raises.engine_of_ne (by rw [stopped]; decide), stopped], by rw [b.clock.agent, taken, agent]⟩
    · rw [takeBroadcast_stop stop] at b
      have waits (still : y.midFiring = true) : t.agent = { s.agent with stopClaim := true } := by
        rw [b.clock.agent, broadcastStop_of_midFiring still, ← agent]
        rfl
      refine ⟨?_, fun calm => waits ?_⟩
      · cases still : y.midFiring with
        | true => exact .inl (waits still)
        | false =>
          obtain ⟨stopped, taken⟩ := broadcastStop_now still
          exact .inr ⟨by rw [b.raises.engine_of_ne (by rw [stopped]; decide), stopped], by rw [b.clock.agent, taken, agent]⟩
      · obtain ⟨-, -, -, -, -, burst⟩ := a.raises.units (a.calm calm)
        rw [midFiring_congr burst, mid]
    · rw [takeBroadcast_other other] at b
      refine ⟨by rw [b.clock.agent, ← agent]; rfl, ?_⟩
      rw [b.counters _ (by decide), counter_bump_self, a.counters _ (by decide)]
  case process =>
    have row : exec (.processFrame f) s = .next ((s.receive f).takeProcess f v) := by
      refine congrArg Host.Outcome.next ?_
      simp [onFrame, good, up, hk]
    have timely : (s.receive f).timely v = s.timely v := rfl
    refine ⟨_, row, ?_⟩
    unfold State.takeProcess
    rw [timely, full_in, Bool.and_false, if_neg Bool.false_ne_true]
    have framed : (s.receive f).counter .lateFrame = s.counter .lateFrame := counter_bump_ne (s.hearFrame f) (by decide)
    have discarded (u : State) : (u.overrun f).counter .lateFrame = u.counter .lateFrame :=
      counter_overrun_ne (by decide) (by decide) u f
    by_cases h : s.timely v = true
    · rw [if_pos h, if_pos h, enter_full full_in]
      exact ⟨by simp, by simp, by simp, by simp, (discarded _).trans framed⟩
    · rw [if_neg h, if_neg h, enter_full (s := (s.receive f).bump .lateFrame) full_in]
      exact ⟨by simp, by simp, by simp, by simp, by rw [discarded, counter_bump_self, framed]⟩

end Sys2Proof.Machine
end

section
/-! SUPPORT. The statement about a broadcast ENGINE_STOP (R17, R173). -/

namespace Sys2Proof.Machine

variable {s t u : State} {f : Frame} {v : FrameView} {q : Request} {rest : List Request}

/-! A step of the burst leaves the Agent, but for a COMMIT that waited. -/

theorem agent_settle (s t : State) : (settle s t).agent = t.agent := by unfold settle; split <;> simp

theorem agent_reevaluate (s : State) (i : Fin 64) (r : WatchRt) : (s.reevaluate i r).agent = s.agent := by
  unfold State.reevaluate
  dsimp only
  repeat' split
  all_goals simp

theorem agent_act {i : Fin 48} {e : ActionEntry} (h : act i e s = some u) : u.agent = s.agent := by
  unfold act at h
  split at h
  · simp only [actPulse, Option.map_eq_some_iff] at h; obtain ⟨_, -, rfl⟩ := h; rfl
  · simp only [actLevel, Option.map_eq_some_iff] at h; obtain ⟨_, -, rfl⟩ := h; rfl
  · unfold actPatch at h
    split at h <;> [skip; cases h]
    cases h
    split <;> simp
  · simp only [actUnpatch, Option.map_eq_some_iff] at h; obtain ⟨_, -, rfl⟩ := h; rfl
  · simp only [actCapture, Option.map_eq_some_iff] at h; obtain ⟨_, -, rfl⟩ := h; simp
  · cases h; simp
  · unfold actThreshold at h
    split at h <;> [cases h; skip]
    dsimp only at h
    split at h <;> [cases h; skip]
    split at h <;> cases h
    exact agent_reevaluate s _ _
  · unfold actRebase at h
    split at h <;> [cases h; skip]
    simp only [Option.map_eq_some_iff] at h
    obtain ⟨_, -, rfl⟩ := h
    rfl
  · unfold actTrainStart at h
    split at h <;> [cases h; skip]
    simp only [Option.map_eq_some_iff] at h
    obtain ⟨_, -, rfl⟩ := h
    simp
  · simp only [actTrainStop, Option.map_eq_some_iff] at h
    obtain ⟨_, -, rfl⟩ := h
    split <;> simp
  · simp only [actTimerStart, Option.map_eq_some_iff] at h; obtain ⟨_, -, rfl⟩ := h; rfl
  · simp only [actTimerStop, Option.map_eq_some_iff] at h; obtain ⟨_, -, rfl⟩ := h; rfl
  · simp only [actTimerCapture, Option.map_eq_some_iff] at h; obtain ⟨_, -, rfl⟩ := h; simp
  · simp only [actArm, Option.map_eq_some_iff] at h; obtain ⟨_, -, rfl⟩ := h; rfl
  · simp only [actArm, Option.map_eq_some_iff] at h; obtain ⟨_, -, rfl⟩ := h; rfl

theorem agent_stepFiring (s : State) (b : Burst) (f : Firing) : (s.stepFiring b f).agent = s.agent := by
  have ran (u : State) (i : Fin 48) (n : Nat) : (u.runAction i n).agent = u.agent := by
    unfold State.runAction
    split
    · rename_i h
      obtain ⟨e, -, he⟩ := Option.bind_eq_some_iff.mp h
      exact agent_act he
    · simp
  unfold State.stepFiring
  repeat' split
  all_goals simp [ran]

theorem agent_burstWork (free : s.agent.hold = none) : s.burstWork.agent = s.agent := by
  cases hb : s.burst with
  | none => simp [State.burstWork, hb]
  | some b =>
    cases hf : b.firing with
    | some f => rw [burstWork_firing hb hf, agent_settle, agent_stepFiring]
    | none =>
      cases hp : b.pending with
      | cons e l => rw [burstWork_entry hb hf hp, State.takeEntry_agent]
      | nil =>
        obtain ⟨p, c, w, worked⟩ := frameWork_eq s b
        have agent (u : State) (h : u.agent = s.agent) : u.finishHeld.agent = s.agent := by
          rw [finishHeld_of_none (by rw [h]; exact free), h]
        rw [burstWork_end hb hf hp, endBurst_eq, worked]
        dsimp only
        refine agent _ ?_
        split
        · rw [State.swap_agent]; rfl
        · rfl

/-! The claim. -/

/-- A claim of the holder with a broadcast stop that waits: both are taken, in either order (R17, R173). -/
theorem claim_with_stop {k : Byte} {take : Request → State → State} (hc : claimOf k = some take) (mid : s.midFiring = false)
    (stop : s.agent.stopClaim = true) : (claim take q s).agent.stopClaim = false
      ∧ (claim take q s).agent.inbox = s.agent.inbox
      ∧ (claim take q s).agent.responses.length = s.agent.responses.length + 1
      ∧ (k ≠ 0x08#8 → (claim take q s).engine = .stopped) := by
  have both : claim take q s = s.withStopClaim (take q) := by simp [claim, mid, stop]
  rw [both, State.withStopClaim, State.spend_agent, State.spend_engine]
  split
  · have keeps := takeStopClaim_keepsWaiting s
    have answered := answers_claimOf hc q s.takeStopClaim
    have leaves := claim_leaves hc q s.takeStopClaim
    have first : s.takeStopClaim.engine = .stopped := by rw [takeStopClaim_of_stop stop]; exact engine_stopEngine _
    exact ⟨leaves.1.trans (stopClaim_takeStopClaim s), answered.inbox.trans keeps.inbox,
      by rw [answered.responses, keeps.responses], fun ne => leaves.2 ne first⟩
  · have answered := answers_claimOf hc q s
    have still : (take q s).agent.stopClaim = true := (claim_leaves hc q s).1.trans stop
    have keeps := takeStopClaim_keepsWaiting (take q s)
    exact ⟨stopClaim_takeStopClaim _, keeps.inbox.trans answered.inbox, by rw [keeps.responses, answered.responses],
      fun _ => by rw [takeStopClaim_of_stop still]; exact engine_stopEngine _⟩

/-- Settles O11: the broadcast by what it asks and by the firing, and where the claim that waits is taken. -/
theorem broadcastStopsTheEngine : Obligations.BroadcastStopsTheEngine := by
  refine ⟨fun s f v h hb => ?arrives, fun s stop free between => ?step, fun s q rest stop mid hq c k hc held => ?claim⟩
  case arrives =>
    have row : exec (.broadcastManagementFrame f) s
        = .next (((s.receive f).appendFrame f false).takeBroadcast ⟨v.source, v.body⟩) :=
      congrArg Host.Outcome.next ((onFrame_arrives h hb).trans (enterAnd_room f _ h.bufferRoom))
    rw [row]
    refine ⟨fun stop mid => ?_, fun stop mid => ?_, fun other => by rw [takeBroadcast_other other]⟩
    · rw [takeBroadcast_stop stop]
      obtain ⟨stopped, taken⟩ := broadcastStop_now (s := (s.receive f).appendFrame f false) mid
      refine ⟨_, rfl, stopped, taken, ?_⟩
      simp
    · rw [takeBroadcast_stop stop, broadcastStop_of_midFiring (s := (s.receive f).appendFrame f false) mid]
      rfl
  case step =>
    have agent := agent_burstWork free
    have served : s.burstStep = s.burstWork.takeStopClaim := by
      have kept : s.burstWork.takeStopClaim.agent.hold = none := by
        rw [(takeStopClaim_keepsWaiting _).hold, agent, free]
      rw [State.burstStep, State.serveClaims, between, agent, free]
      simp [State.takeHeld, kept]
    rw [served]
    exact ⟨by rw [takeStopClaim_of_stop (by rw [agent]; exact stop)]; exact engine_stopEngine _, stopClaim_takeStopClaim _⟩
  case claim =>
    obtain ⟨take, claims, known, row⟩ : ∃ take, claimOf k = some take ∧ knownKind k = true
        ∧ exec c s = .next (claim take q (s.inHand rest)) := by
      simp only [List.mem_cons, Prod.mk.injEq, List.not_mem_nil, or_false] at hc
      obtain ⟨rfl, rfl⟩ | ⟨rfl, rfl⟩ | ⟨rfl, rfl⟩ | ⟨rfl, rfl⟩ := hc <;>
        exact ⟨_, rfl, by decide, congrArg Host.Outcome.next (bareClaim_row held (by decide) hq)⟩
    obtain ⟨taken, inbox, responses, engine⟩ := claim_with_stop (s := s.inHand rest) (q := q) claims mid stop
    refine ⟨_, row, taken, inbox, responses, fun ne => engine ?_⟩
    rintro rfl
    simp only [List.mem_cons, Prod.mk.injEq, List.not_mem_nil, or_false] at hc
    obtain ⟨rfl, -⟩ | ⟨-, h⟩ | ⟨-, h⟩ | ⟨-, h⟩ := hc
    · exact ne rfl
    all_goals cases h

end Sys2Proof.Machine
end

section
/-! SUPPORT. What taking an event comes to: the burst begun, the work of the event, and its entries (R8, R9, R16). -/

namespace Sys2Proof.Machine

variable {s t u v : State} {b : Burst} {e : Event} {rest : List Event}

/-! Entries touch the pending-firing list, the triggers' counts and one counter. -/

theorem counter_bumpBy_ne (s : State) {c d : Counter} (n : Nat) (h : d ≠ c) : (s.bumpBy d n).counter c = s.counter c := by
  have codes : d.code ≠ c.code := by cases d <;> cases c <;> first | exact absurd rfl h | decide
  simp [State.counter, State.bumpBy, Tab.get_modify, codes]

theorem counter_bumpBy_self (s : State) (c : Counter) (n : Nat) :
    (s.bumpBy c n).counter c = satAdd 4294967295 (s.counter c) n := by
  simp [State.counter, State.bumpBy]

/-- `u` comes of `s` by adding entries, and by nothing else (R9, R10). -/
structure State.OnlyAdds (s u : State) : Prop where
  form : u = ((s.withBurst u.burst).withTriggers u.triggers).withCounters u.counters
  counters : ∀ c, c ≠ .mergedFiring → u.counter c = s.counter c

theorem State.OnlyAdds.refl (s : State) : s.OnlyAdds s := ⟨rfl, fun _ _ => rfl⟩

theorem State.OnlyAdds.trans (a : s.OnlyAdds u) (b : u.OnlyAdds t) : s.OnlyAdds t where
  form := by
    have lifted := congrArg (fun x : State => ((x.withBurst t.burst).withTriggers t.triggers).withCounters t.counters) a.form
    exact b.form.trans lifted
  counters c hc := (b.counters c hc).trans (a.counters c hc)

theorem addEntries_onlyAdds (s : State) (e : Entry) (n : Nat) : s.OnlyAdds (s.addEntries e n) := by
  unfold State.addEntries
  split
  · exact .refl s
  · dsimp only
    split
    · exact ⟨rfl, fun c hc => counter_bumpBy_ne _ _ hc.symm⟩
    · exact ⟨rfl, fun _ _ => rfl⟩

theorem overList_onlyAdds {α : Type} {f : State → α → State} (h : ∀ (s : State) a, s.OnlyAdds (f s a)) (l : List α) :
    ∀ s : State, s.OnlyAdds (overList f s l) := by
  induction l with
  | nil => exact .refl
  | cons a l ih => exact fun s => (h s a).trans (ih (f s a))

theorem addProducts_onlyAdds (l : Products) (s : State) : s.OnlyAdds (s.addProducts l) := by
  refine overList_onlyAdds (fun s t => overList_onlyAdds (fun s x => ?_) l s) _ s
  split
  · exact addEntries_onlyAdds s _ _
  · exact .refl s

/-- The entry of a FIRE_REQUEST for one trigger, if it is named and valid (R16). -/
def State.addIfNamed (s : State) (m : BitVec 48) (t : Fin 48) : State :=
  if m.getLsbD t && (s.banks.active.triggers.get t).valid then s.addEntries ⟨t, .none, 0⟩ 1 else s

theorem addNamed_onlyAdds (m : BitVec 48) (s : State) : s.OnlyAdds (s.addNamed m) := by
  refine overList_onlyAdds (f := fun s => s.addIfNamed m) (fun s t => ?_) _ s
  unfold State.addIfNamed
  split
  · exact addEntries_onlyAdds s _ _
  · exact .refl s

/-- The entries of a FIRE_REQUEST: one for each valid trigger that is named (R16). -/
def State.namedEntries (s : State) (m : BitVec 48) : List Entry :=
  ((List.finRange 48).filter fun (t : Fin 48) => m.getLsbD t && (s.banks.active.triggers.get t).valid).map fun t => ⟨t, .none, 0⟩

theorem addNamed_pends (h : s.burst = some b) (m : BitVec 48) : s.Pends (s.addNamed m) b (s.namedEntries m) := by
  suffices H : ∀ (ts : List (Fin 48)) {s : State} {b : Burst}, s.burst = some b →
      s.Pends (overList (fun s => s.addIfNamed m) s ts) b ((ts.filter fun (t : Fin 48) =>
        m.getLsbD t && (s.banks.active.triggers.get t).valid).map fun t => ⟨t, .none, 0⟩) from
    H _ h
  intro ts
  induction ts with
  | nil => intro s b h; exact .refl h
  | cons t ts ih =>
    intro s b h
    have first : overList (fun s => s.addIfNamed m) s (t :: ts) = overList (fun s => s.addIfNamed m) (s.addIfNamed m t) ts := rfl
    rw [first]
    by_cases named : (m.getLsbD t && (s.banks.active.triggers.get t).valid) = true
    · have one : s.addIfNamed m t = s.addEntries ⟨t, .none, 0⟩ 1 := if_pos named
      rw [List.filter_cons_of_pos (by exact named), List.map_cons, ← List.singleton_append, one]
      have step := (addEntries_pends h ⟨t, .none, 0⟩ 1).trans fun c hc => ih hc
      rwa [State.addEntries_banks] at step
    · have one : s.addIfNamed m t = s := if_neg named
      rw [List.filter_cons_of_neg (by exact named), one]
      exact ih h

/-! The taking of an event. -/

/-- Whether the burst of an event carries a swap (R145). -/
def State.carries (s : State) : Event → Bool
  | .cycleClose _ => s.banks.commitPending
  | _ => false

/-- The burst that an event begins. -/
def State.newBurst (s : State) (e : Event) : Burst :=
  { stamp := e.stamp, frame := e.frameId, carriesSwap := s.carries e, pending := [], fired := 0#48, firing := none }

/-- The state in which the work of an event begins. -/
def State.begun (s : State) (e : Event) (rest : List Event) : State := (s.withIntake rest).withBurst (some (s.newBurst e))

/-- The work of an event and what it produces (R8). -/
def State.eventWork (s : State) : Event → State × Products
  | .frame id station _ => s.sampleFrame id station
  | .cycleClose _ => s.settleChannels fun e c => c.close e.missLimit
  | .cycleLost _ => s.settleChannels fun _ c => c.lose
  | e => (s, e.thing?.toList.map (·, 1))

/-- The entries of an event are entered (R9, R16). -/
def State.enterEvent (s : State) (e : Event) (l : Products) : State :=
  match e with
  | .fireRequest m _ => s.addNamed m
  | _ => s.addProducts l

/-- The entries that an event gives when it produces `l`. -/
def State.eventEntries (s : State) (e : Event) (l : Products) : List Entry :=
  match e with
  | .fireRequest m _ => s.namedEntries m
  | _ => s.entriesOf l.things

theorem take_row (idle : s.burst = none) (head : s.intake = e :: rest) (m : BurstMode) : exec (takeIn m e) s
    = .next (((s.begun e rest).eventWork e).1.fireAll m fun u => u.enterEvent e ((s.begun e rest).eventWork e).2) := by
  cases e with
  | frame id station st => show execTakeFrameEvent m s = _; rw [execTakeFrameEvent, idle, head]; rfl
  | inputEdge k rise levels st => show execTakeInputEdge m s = _; rw [execTakeInputEdge, idle, head]; rfl
  | timerExpiry k st => show execTakeTimerExpiry m s = _; rw [execTakeTimerExpiry, idle, head]; rfl
  | cycleStart n st => show execTakeCycleStart m s = _; rw [execTakeCycleStart, idle, head]; rfl
  | cycleClose st => show execTakeCycleClose m s = _; rw [execTakeCycleClose, idle, head]; rfl
  | cycleLost st => show execTakeCycleLost m s = _; rw [execTakeCycleLost, idle, head]; rfl
  | fireRequest m' st => show execTakeFireRequest m s = _; rw [execTakeFireRequest, idle, head]; rfl

/-- The work of an event touches the channels, the watches, the trains and the counters. -/
theorem eventWork_form (s : State) (e : Event) : (s.eventWork e).1 = (((s.withChannels (s.eventWork e).1.channels).withWatches
    (s.eventWork e).1.watches).withTrains (s.eventWork e).1.trains).withCounters (s.eventWork e).1.counters := by
  cases e with
  | frame id station st =>
    show (s.sampleFrame id station).1 = (((s.withChannels (s.sampleFrame id station).1.channels).withWatches
      (s.sampleFrame id station).1.watches).withTrains (s.sampleFrame id station).1.trains).withCounters
      (s.sampleFrame id station).1.counters
    unfold State.sampleFrame
    split
    · rfl
    · split <;> rfl
  | _ => rfl

/-- The state after a taken event, whose burst is not run yet. -/
def State.taken (s : State) (e : Event) (rest : List Event) : State :=
  let r := (s.begun e rest).eventWork e
  if s.engine = .running then r.1.enterEvent e r.2 else r.1

/-- What a taken event leaves of the state in which its work was done. -/
structure State.Enters (s v : State) (e : Event) (l : Products) (u : State) : Prop where
  adds : v.OnlyAdds u
  pends : s.engine = .running → v.Pends u (s.newBurst e) (v.eventEntries e l)
  idle : s.engine ≠ .running → u = v

theorem eventWork_engine (s : State) (e : Event) : (s.eventWork e).1.engine = s.engine := by rw [eventWork_form]; rfl

theorem eventWork_burst (s : State) (e : Event) : (s.eventWork e).1.burst = s.burst := by rw [eventWork_form]; rfl

theorem enterEvent_onlyAdds (s : State) (e : Event) (l : Products) : s.OnlyAdds (s.enterEvent e l) := by
  unfold State.enterEvent
  split
  · exact addNamed_onlyAdds _ s
  · exact addProducts_onlyAdds l s

theorem enterEvent_pends (h : s.burst = some b) (e : Event) (l : Products) :
    s.Pends (s.enterEvent e l) b (s.eventEntries e l) := by
  cases e with
  | fireRequest m st => exact addNamed_pends h m
  | _ => exact addProducts_pends h l

theorem taken_enters (s : State) (e : Event) (rest : List Event) :
    s.Enters ((s.begun e rest).eventWork e).1 e ((s.begun e rest).eventWork e).2 (s.taken e rest) := by
  unfold State.taken
  dsimp only
  have burst : ((s.begun e rest).eventWork e).1.burst = some (s.newBurst e) := eventWork_burst _ e
  by_cases running : s.engine = .running
  · rw [if_pos running]
    exact ⟨enterEvent_onlyAdds _ e _, fun _ => enterEvent_pends burst e _, fun h => absurd running h⟩
  · rw [if_neg running]
    exact ⟨.refl _, fun h => absurd h running, fun _ => rfl⟩

theorem take_stepwise (idle : s.burst = none) (head : s.intake = e :: rest) :
    exec (takeIn .stepwise e) s = .next (s.taken e rest) := by
  rw [take_row idle head, State.fireAll, eventWork_engine]
  rfl

theorem take_whole (idle : s.burst = none) (head : s.intake = e :: rest) :
    exec (takeIn .whole e) s = .next ((s.taken e rest).runBurst burstFuel) := by
  rw [take_row idle head, State.fireAll, eventWork_engine]
  rfl

/-- What the taking of an event leaves. -/
theorem taken_form (s : State) (e : Event) (rest : List Event) : ∃ c w r k g n, s.taken e rest
    = ((((((s.begun e rest).withChannels c).withWatches w).withTrains r).withBurst k).withTriggers g).withCounters n := by
  have added := (taken_enters s e rest).adds.form
  have work := eventWork_form (s.begun e rest) e
  generalize ((s.begun e rest).eventWork e).1 = v at added work
  generalize s.taken e rest = t at added
  generalize s.begun e rest = u at work
  refine ⟨v.channels, v.watches, v.trains, t.burst, t.triggers, t.counters, added.trans ?_⟩
  have lifted := congrArg (fun x : State => ((x.withBurst t.burst).withTriggers t.triggers).withCounters t.counters) work
  exact lifted

/-- Only the work of FRAME, CYCLE_CLOSE and CYCLE_LOST is more than what the event is. -/
theorem eventWork_still (h : e.thing?.isSome = true ∨ e.code = 6) (s : State) : (s.eventWork e).1 = s := by
  cases e with
  | frame | cycleClose | cycleLost => simp [Event.thing?, Event.code] at h
  | _ => rfl

/-- The burst that a taken event begins. -/
theorem taken_burst (s : State) (e : Event) (rest : List Event) :
    ∃ l, (s.taken e rest).burst = some { s.newBurst e with pending := l } ∧ (s.engine ≠ .running → l = []) := by
  have enters := taken_enters s e rest
  by_cases running : s.engine = .running
  · exact ⟨_, (enters.pends running).burst, fun h => absurd running h⟩
  · exact ⟨[], by rw [enters.idle running, eventWork_burst]; rfl, fun _ => rfl⟩

/-- Settles O20: the burst by the event, and what its work and its entries leave. -/
theorem takingAnEventBeginsItsBurst : Obligations.TakingAnEventBeginsItsBurst := by
  intro s e rest idle head
  have enters := taken_enters s e rest
  obtain ⟨l, hl, quiet⟩ := taken_burst s e rest
  have still : e.thing?.isSome = true ∨ e.code = 6 → (s.taken e rest).channels = s.channels
      ∧ (s.taken e rest).watches = s.watches ∧ (s.taken e rest).trains = s.trains := fun h => by
    have adds := enters.adds.form
    rw [eventWork_still h] at adds
    exact ⟨(congrArg State.channels adds).trans rfl, (congrArg State.watches adds).trans rfl,
      (congrArg State.trains adds).trans rfl⟩
  obtain ⟨c, w, r, k, g, n, form⟩ := taken_form s e rest
  refine ⟨_, _, take_stepwise idle head, take_whole idle head, hl, rfl, rfl, rfl, rfl, quiet, ?_⟩
  generalize s.taken e rest = u at form still
  refine ⟨?_, ?_, ?_, ?_, ?_, ?_, ?_, ?_, ?_, ?_, ?_, ?_, ?_, still⟩
  all_goals simp [form, State.begun]

end Sys2Proof.Machine
end

section
/-! SUPPORT. The work of a FRAME event, a CYCLE_CLOSE and a CYCLE_LOST: samples, watches, trains, and what they produce (R8, R50,
R61 to R64, R71 to R73, R86). -/

namespace Sys2Proof.Machine

variable {s t u v : State} {b : BufFrame} {e : Event} {rest : List Event} {id : Nat} {station : Byte} {i : Fin 32} {m : Sample}

namespace State.OnlyAdds

theorem channels (a : s.OnlyAdds u) : u.channels = s.channels := (congrArg State.channels a.form).trans rfl

theorem watches (a : s.OnlyAdds u) : u.watches = s.watches := (congrArg State.watches a.form).trans rfl

theorem trains (a : s.OnlyAdds u) : u.trains = s.trains := (congrArg State.trains a.form).trans rfl

end State.OnlyAdds

/-! What a frame brings to the channels, the watches and the trains. -/

/-- The sample that channel `i` takes from a buffered frame of a station that is no duplicate (R61, R62, R64). -/
def State.sampleAt (s : State) (b : BufFrame) (station : Byte) (i : Fin 32) : Option Sample :=
  if s.follows station i then (slotAt b.bytes (s.banks.active.channels.get i).slot).map fun raw =>
    nextSample (s.banks.active.channels.get i).kind (s.channels.get i).value raw b.ordinal
  else none

theorem sampleAt_some {raw : BitVec 32} (h : s.follows station i = true)
    (hs : slotAt b.bytes (s.banks.active.channels.get i).slot = some raw) : s.sampleAt b station i
      = some (nextSample (s.banks.active.channels.get i).kind (s.channels.get i).value raw b.ordinal) := by
  simp [State.sampleAt, h, hs]

theorem sampleAt_none (h : s.follows station i = false ∨ slotAt b.bytes (s.banks.active.channels.get i).slot = none) :
    s.sampleAt b station i = none := by
  obtain h | h := h <;> simp [State.sampleAt, h]

theorem takesSample_eq (s : State) (b : BufFrame) (station : Byte) (i : Fin 32) :
    s.takesSample b.bytes station i = (s.sampleAt b station i).isSome := by
  unfold State.takesSample State.sampleAt slotAt
  by_cases h : s.follows station i = true
  · by_cases carried : (s.banks.active.channels.get i).slot.val < slotCount b.bytes <;> simp [h, carried]
  · simp [h]

/-- The channels after a frame that is no duplicate (R64). -/
theorem channels_updateChannels (s : State) (b : BufFrame) (station : Byte) (i : Fin 32) :
    (s.updateChannels b.bytes station b.ordinal).channels.get i
      = ((s.sampleAt b station i).map fun m => (⟨.seen .fresh m, 0, true⟩ : ChannelRt)).getD (s.channels.get i) := by
  simp only [State.updateChannels, State.channels_withChannels, Tab.get_mapIdx, State.sampleAt]
  cases slotAt b.bytes (s.banks.active.channels.get i).slot with
  | none => simp
  | some raw => by_cases h : s.follows station i = true <;> simp [h, ChannelRt.update]

theorem current_updateChannels (h : s.sampleAt b station i = some m) :
    ((s.updateChannels b.bytes station b.ordinal).channels.get i).current = some m := by
  rw [channels_updateChannels, h]; rfl

/-- The evaluation of train `k` at a frame that is no duplicate (R86). -/
def State.trainAt (s : State) (b : BufFrame) (station : Byte) (k : Fin 8) : TrainEval :=
  let e := s.banks.active.trains.get k
  match s.sampleAt b station e.channel with
  | some m => if e.valid then (s.trains.get k).evaluate e m.extended else ⟨s.trains.get k, 0⟩
  | none => ⟨s.trains.get k, 0⟩

/-- Watch `w` at a frame that is no duplicate (R50). -/
def State.watchAt (s : State) (b : BufFrame) (station : Byte) (w : Fin 64) : WatchRt :=
  let e := s.banks.active.watches.get w
  match s.sampleAt b station e.channel with
  | some m => if e.valid then (s.watches.get w).evaluate e m else s.watches.get w
  | none => s.watches.get w

/-- The state in which the trains are evaluated. -/
def State.watched (s : State) (b : BufFrame) (station : Byte) : State :=
  (s.updateChannels b.bytes station b.ordinal).evaluateWatches (s.takesSample b.bytes station)

theorem watches_watched (s : State) (b : BufFrame) (station : Byte) (w : Fin 64) :
    (s.watched b station).watches.get w = s.watchAt b station w := by
  simp only [State.watched, State.evaluateWatches, State.watches_withWatches, Tab.get_mapIdx, takesSample_eq, State.watchAt]
  have banks : (s.updateChannels b.bytes station b.ordinal).banks = s.banks := rfl
  rw [banks]
  cases h : s.sampleAt b station (s.banks.active.watches.get w).channel with
  | none => simp; split <;> rfl
  | some m => rw [current_updateChannels h]; simp; rfl

/-- A train that measures no travel is not evaluated. -/
theorem evaluate_of_idle {r : TrainRt} (h : r.live = false) (e : TrainEntry) (x : Ext) : r.evaluate e x = ⟨r, 0⟩ := by
  have idle : r.state = .idle := by simpa [TrainRt.live] using h
  simp [TrainRt.evaluate, idle]

theorem trainEval_watched (s : State) (b : BufFrame) (station : Byte) (k : Fin 8) :
    (s.watched b station).trainEval (s.takesSample b.bytes station) k = s.trainAt b station k := by
  have banks : (s.watched b station).banks = s.banks := rfl
  have trains : (s.watched b station).trains = s.trains := rfl
  have channels : (s.watched b station).channels = (s.updateChannels b.bytes station b.ordinal).channels := rfl
  simp only [State.trainEval, State.trainAt, banks, trains, channels, takesSample_eq]
  cases h : s.sampleAt b station (s.banks.active.trains.get k).channel with
  | none => simp; split <;> rfl
  | some m =>
    rw [current_updateChannels h]
    cases live : (s.trains.get k).live with
    | true => simp
    | false => simp [evaluate_of_idle live]

theorem divisionsAt_eq (s : State) (b : BufFrame) (station : Byte) (k : Fin 8) :
    s.divisionsAt b station k = (s.trainAt b station k).divisions := by
  unfold State.divisionsAt State.trainAt State.sampleAt
  cases h : slotAt b.bytes (s.banks.active.channels.get (s.banks.active.trains.get k).channel).slot with
  | none => simp [h]
  | some raw =>
    cases follows : s.follows station (s.banks.active.trains.get k).channel <;>
      cases valid : (s.banks.active.trains.get k).valid <;> simp [h, follows, valid]

/-- The work of a FRAME event that is no duplicate. -/
theorem sampleFrame_eq (found : s.forward.find id = some b) (fresh : s.isDuplicate station b.ordinal = false) :
    s.sampleFrame id station = (((s.watched b station).evaluateTrains (s.takesSample b.bytes station)).1,
      watchEdges s.watches (s.watched b station).watches
        ++ ((s.watched b station).evaluateTrains (s.takesSample b.bytes station)).2) := by
  simp only [State.sampleFrame, found, fresh, Bool.false_eq_true, if_false]
  rfl

/-- The work of a FRAME event that is a duplicate (R63). -/
theorem sampleFrame_duplicate (found : s.forward.find id = some b) (dup : s.isDuplicate station b.ordinal = true) :
    s.sampleFrame id station = (s.bump .duplicateSample, []) := by
  simp [State.sampleFrame, found, dup]

/-- What a FRAME event that is no duplicate leaves. -/
structure State.Sampled (s v : State) (b : BufFrame) (station : Byte) : Prop where
  channels : ∀ i, v.channels.get i
    = ((s.sampleAt b station i).map fun m => (⟨.seen .fresh m, 0, true⟩ : ChannelRt)).getD (s.channels.get i)
  watches : ∀ w, v.watches.get w = s.watchAt b station w
  trains : ∀ k, v.trains.get k = (s.trainAt b station k).rt
  crowded : v.counter .crowdedDivision = satAdd 4294967295 (s.counter .crowdedDivision)
    ((List.finRange 8).countP fun k => decide (1 < s.divisionsAt b station k))

theorem sampleFrame_sampled (found : s.forward.find id = some b) (fresh : s.isDuplicate station b.ordinal = false) :
    s.Sampled (s.sampleFrame id station).1 b station := by
  rw [sampleFrame_eq found fresh]
  refine ⟨channels_updateChannels s b station, watches_watched s b station, fun k => ?_, ?_⟩
  · simp [State.evaluateTrains, trainEval_watched]
  · have counted : (((s.watched b station).evaluateTrains (s.takesSample b.bytes station)).1).counter .crowdedDivision
        = satAdd 4294967295 (s.counter .crowdedDivision) (((List.finRange 8).map fun k =>
          (k, (s.watched b station).trainEval (s.takesSample b.bytes station) k)).countP fun p => decide (1 < p.2.divisions)) :=
      counter_bumpBy_self _ _ _
    rw [counted, List.countP_map]
    simp only [Function.comp_def, trainEval_watched, divisionsAt_eq]

/-- The state after a taken FRAME event. -/
theorem taken_sampled {st : Stamp} (found : s.forward.find id = some b) (fresh : s.isDuplicate station b.ordinal = false) :
    s.Sampled (s.taken (.frame id station st) rest) b station := by
  have sampled := sampleFrame_sampled (s := s.begun (.frame id station st) rest) found fresh
  have adds := (taken_enters s (.frame id station st) rest).adds
  exact ⟨fun i => by rw [adds.channels]; exact sampled.channels i, fun w => by rw [adds.watches]; exact sampled.watches w,
    fun k => by rw [adds.trains]; exact sampled.trains k, (adds.counters _ (by decide)).trans sampled.crowded⟩

/-- Settles O25: each channel and watch by the sample that the frame brings it. -/
theorem frameEventUpdatesItsChannels : Obligations.FrameEventUpdatesItsChannels := by
  intro s id st station b rest idle head found
  refine ⟨_, take_stepwise idle head, fun fresh i => ?_, fun fresh w => ⟨fun raw valid follows carried => ?_, fun no => ?_⟩,
    fun dup => ?_⟩
  · rw [(taken_sampled found fresh).channels, State.sampleAt]
    cases slotAt b.bytes (s.banks.active.channels.get i).slot with
    | none => simp
    | some raw => by_cases follows : s.follows station i = true <;> simp [follows]
  · rw [(taken_sampled found fresh).watches, State.watchAt, sampleAt_some follows carried]
    exact if_pos valid
  · rw [(taken_sampled found fresh).watches, State.watchAt]
    obtain invalid | none_ := no
    · cases s.sampleAt b station (s.banks.active.watches.get w).channel with
      | none => rfl
      | some m => exact if_neg (ne_true_of_eq_false invalid)
    · rw [sampleAt_none none_]
  · have work : ((s.begun (.frame id station st) rest).eventWork (.frame id station st)).1
        = (s.begun (.frame id station st) rest).bump .duplicateSample :=
      congrArg Prod.fst (sampleFrame_duplicate (s := s.begun (.frame id station st) rest) found dup)
    have adds := (taken_enters s (.frame id station st) rest).adds
    rw [work] at adds
    exact ⟨adds.channels, adds.watches, adds.trains, (adds.counters _ (by decide)).trans
      (counter_bump_self (s.begun (.frame id station st) rest) .duplicateSample)⟩

/-! Closes and losses. -/

/-- What a taken CYCLE_CLOSE or CYCLE_LOST leaves of a channel and its units. -/
theorem taken_settles (f : ChannelEntry → ChannelRt → ChannelRt)
    (work : (s.begun e rest).eventWork e = (s.begun e rest).settleChannels f) (i : Fin 32) :
    let u := s.taken e rest
    let a := if (s.banks.active.channels.get i).valid then f (s.banks.active.channels.get i) (s.channels.get i)
      else s.channels.get i
    u.channels.get i = a ∧ ((a.isStale && !(s.channels.get i).isStale) = true → s.LosesUnitsOf u i)
      ∧ ((a.isStale && !(s.channels.get i).isStale) = false → s.KeepsUnitsOf u i) := by
  have adds := (taken_enters s e rest).adds
  rw [work] at adds
  obtain ⟨value, loses, keeps⟩ := settleChannels_units (s.begun e rest) f i
  refine ⟨by rw [adds.channels]; exact value, fun h => ?_, fun h => ?_⟩
  · obtain ⟨watches, trains⟩ := loses h
    exact ⟨fun w hw => by rw [adds.watches]; exact watches w hw, fun k hk => by rw [adds.trains]; exact trains k hk⟩
  · obtain ⟨watches, trains⟩ := keeps h
    exact ⟨fun w hw => by rw [adds.watches]; exact watches w hw, fun k hk => by rw [adds.trains]; exact trains k hk⟩

/-- A channel whose units the record `a` leaves or takes. -/
theorem taken_channel (f : ChannelEntry → ChannelRt → ChannelRt)
    (work : (s.begun e rest).eventWork e = (s.begun e rest).settleChannels f) {a : ChannelRt}
    (valid : (s.banks.active.channels.get i).valid = true) (ha : f (s.banks.active.channels.get i) (s.channels.get i) = a) :
    (s.taken e rest).channels.get i = a
      ∧ ((a.isStale && !(s.channels.get i).isStale) = true → s.LosesUnitsOf (s.taken e rest) i)
      ∧ ((a.isStale && !(s.channels.get i).isStale) = false → s.KeepsUnitsOf (s.taken e rest) i) := by
  have settles := taken_settles f work i
  dsimp only at settles
  rwa [if_pos valid, ha] at settles

/-- A channel without an entry is left alone. -/
theorem taken_invalid (f : ChannelEntry → ChannelRt → ChannelRt)
    (work : (s.begun e rest).eventWork e = (s.begun e rest).settleChannels f)
    (invalid : (s.banks.active.channels.get i).valid = false) :
    (s.taken e rest).channels.get i = s.channels.get i ∧ s.KeepsUnitsOf (s.taken e rest) i := by
  obtain ⟨value, -, keeps⟩ := taken_settles f work i
  rw [if_neg (ne_true_of_eq_false invalid)] at value keeps
  exact ⟨value, keeps (by cases (s.channels.get i).isStale <;> rfl)⟩

namespace ChannelRt

variable {c : ChannelRt} {f : Freshness} {m : Sample}

theorem isStale_iff (c : ChannelRt) : c.isStale = true ↔ ∃ m, c.value = .seen .stale m := by
  unfold isStale
  split
  · rename_i m h; simp [h]
  · rename_i other; simpa using other

theorem isStale_of_value {g : Freshness} {n : Nat} {u : Bool} (hg : g ≠ .stale) :
    (⟨.seen g m, n, u⟩ : ChannelRt).isStale = false := by
  cases g <;> first | rfl | exact absurd rfl hg

/-- A close at a FRESH or HELD channel (R71, R72). -/
theorem close_of_seen (hv : c.value = .seen f m) (hf : f ≠ .stale) (limit : Nat) :
    (c.updated = true → c.close limit = ⟨.seen .fresh m, c.misses, false⟩)
    ∧ (c.updated = false → c.misses + 1 ≠ limit → c.close limit = ⟨.seen .held m, c.misses + 1, false⟩)
    ∧ (c.updated = false → c.misses + 1 = limit → c.close limit = ⟨.seen .stale m, c.misses + 1, false⟩) := by
  obtain ⟨value, misses, updated⟩ := c
  subst hv
  refine ⟨fun h => ?_, fun h n => ?_, fun h n => ?_⟩ <;> cases f <;> simp_all [close, goStale]

/-- A loss at a FRESH or HELD channel (R73). -/
theorem lose_of_seen (hv : c.value = .seen f m) (hf : f ≠ .stale) : c.lose = ⟨.seen .stale m, c.misses, false⟩ := by
  cases f <;> simp_all [lose, goStale]

/-- A close and a loss at an UNSEEN or STALE channel (R71, R73). -/
theorem settle_out (h : c.value = .unseen ∨ ∃ m, c.value = .seen .stale m) (limit : Nat) :
    c.close limit = ⟨c.value, c.misses, false⟩ ∧ c.lose = ⟨c.value, c.misses, false⟩ := by
  obtain h | ⟨m, h⟩ := h <;> simp [close, lose, h]

end ChannelRt

/-- A FRESH or HELD channel whose record stays so keeps its units, and one whose record goes STALE loses them. -/
theorem taken_channel_seen (f : ChannelEntry → ChannelRt → ChannelRt)
    (work : (s.begun e rest).eventWork e = (s.begun e rest).settleChannels f) {g g' : Freshness} {n : Nat}
    (valid : (s.banks.active.channels.get i).valid = true) (hv : (s.channels.get i).value = .seen g' m) (hg' : g' ≠ .stale)
    (ha : f (s.banks.active.channels.get i) (s.channels.get i) = ⟨.seen g m, n, false⟩) :
    (s.taken e rest).channels.get i = ⟨.seen g m, n, false⟩
      ∧ (g = .stale → s.LosesUnitsOf (s.taken e rest) i) ∧ (g ≠ .stale → s.KeepsUnitsOf (s.taken e rest) i) := by
  obtain ⟨value, loses, keeps⟩ := taken_channel f work valid ha
  have was : (s.channels.get i).isStale = false := by
    rw [← Bool.not_eq_true, ChannelRt.isStale_iff, hv]
    rintro ⟨m', h⟩
    cases h
    exact hg' rfl
  refine ⟨value, fun h => loses ?_, fun h => keeps ?_⟩
  · subst h; rw [was]; rfl
  · rw [ChannelRt.isStale_of_value h]; rfl

/-- An UNSEEN or STALE channel keeps its units, and its flag is cleared. -/
theorem taken_channel_out (f : ChannelEntry → ChannelRt → ChannelRt)
    (work : (s.begun e rest).eventWork e = (s.begun e rest).settleChannels f)
    (valid : (s.banks.active.channels.get i).valid = true)
    (ha : f (s.banks.active.channels.get i) (s.channels.get i) = ⟨(s.channels.get i).value, (s.channels.get i).misses, false⟩) :
    (s.taken e rest).channels.get i = ⟨(s.channels.get i).value, (s.channels.get i).misses, false⟩
      ∧ s.KeepsUnitsOf (s.taken e rest) i := by
  obtain ⟨value, -, keeps⟩ := taken_channel f work valid ha
  have same : (⟨(s.channels.get i).value, (s.channels.get i).misses, false⟩ : ChannelRt).isStale
      = (s.channels.get i).isStale := rfl
  exact ⟨value, keeps (by rw [same]; cases (s.channels.get i).isStale <;> rfl)⟩

theorem eventWork_close (s : State) (st : Stamp) (rest : List Event) :
    (s.begun (.cycleClose st) rest).eventWork (.cycleClose st)
      = (s.begun (.cycleClose st) rest).settleChannels fun e c => c.close e.missLimit := rfl

theorem eventWork_lost (s : State) (st : Stamp) (rest : List Event) :
    (s.begun (.cycleLost st) rest).eventWork (.cycleLost st)
      = (s.begun (.cycleLost st) rest).settleChannels fun _ c => c.lose := rfl

/-- Settles O27: each channel by what it was, at a close and at a loss. -/
theorem channelsAtCloseAndLoss : Obligations.ChannelsAtCloseAndLoss := by
  refine ⟨fun s st rest idle head => ⟨_, take_stepwise idle head, fun i f m valid hv hf => ?close, fun i valid out => ?closeOut,
      fun i invalid => taken_invalid _ (eventWork_close s st rest) invalid⟩,
    fun s st rest idle head => ⟨_, take_stepwise idle head, fun i f m valid hv hf => ?lost, fun i valid out => ?lostOut,
      fun i invalid => taken_invalid _ (eventWork_lost s st rest) invalid⟩⟩
  case close =>
    obtain ⟨fresh, held, stale⟩ := ChannelRt.close_of_seen hv hf (s.banks.active.channels.get i).missLimit
    refine ⟨fun updated => ?_, fun missed few => ?_, fun missed many => ?_⟩
    · obtain ⟨value, -, keeps⟩ := taken_channel_seen _ (eventWork_close s st rest) valid hv hf (fresh updated)
      exact ⟨value, keeps (by decide)⟩
    · obtain ⟨value, -, keeps⟩ := taken_channel_seen _ (eventWork_close s st rest) valid hv hf (held missed few)
      exact ⟨value, keeps (by decide)⟩
    · obtain ⟨value, loses, -⟩ := taken_channel_seen _ (eventWork_close s st rest) valid hv hf (stale missed many)
      exact ⟨value, loses rfl⟩
  case closeOut => exact taken_channel_out _ (eventWork_close s st rest) valid (ChannelRt.settle_out out _).1
  case lost =>
    obtain ⟨value, loses, -⟩ := taken_channel_seen _ (eventWork_lost s st rest) valid hv hf
      (ChannelRt.lose_of_seen hv hf)
    exact ⟨value, loses rfl⟩
  case lostOut => exact taken_channel_out _ (eventWork_lost s st rest) valid (ChannelRt.settle_out out 0).2

end Sys2Proof.Machine
end

section
/-! SUPPORT. The entries of a taken event: what its work produces, and the order and the number of its entries (R2, R9, R16). -/

namespace Sys2Proof.Machine

variable {s t u v : State} {c : Burst} {b : BufFrame} {e : Event} {rest : List Event} {id : Nat} {station : Byte}

/-! What the work of an event produces, thing by thing. -/

theorem things_append (l m : Products) : Products.things (l ++ m) = l.things ++ m.things := List.flatMap_append

theorem things_flatMap {α : Type} (f : α → Products) (l : List α) :
    Products.things (l.flatMap f) = l.flatMap fun a => (f a).things := List.flatMap_assoc

theorem things_watchEdges (before after : Tab WatchRt 64) : (watchEdges before after).things
    = (List.finRange 64).filterMap fun i => (edgeOf (before.get i).truth (after.get i).truth).map fun rise => .watch i rise := by
  unfold watchEdges
  induction List.finRange 64 with
  | nil => rfl
  | cons i l ih =>
    cases h : edgeOf (before.get i).truth (after.get i).truth with
    | none => simpa [h] using ih
    | some rise => simpa [h, Products.things] using ih

theorem things_evalProducts (k : Fin 8) (r : TrainRt) (x : TrainEval) : (evalProducts k r x).things
    = List.replicate x.divisions (.trainDivision k)
      ++ if r.state ≠ .idle ∧ x.rt.state = .idle then [.trainEnd k] else [] := by
  unfold evalProducts
  rw [things_append]
  congr 1
  · split
    · rename_i h; simp [h, Products.things]
    · simp [Products.things]
  · by_cases ends : r.state ≠ .idle ∧ x.rt.state = .idle
    · have : (r.live && !x.rt.live) = true := by simp [TrainRt.live, ends.1, ends.2]
      rw [if_pos ends, if_pos this]; rfl
    · have : ¬ (r.live && !x.rt.live) = true := by simpa [TrainRt.live] using ends
      rw [if_neg ends, if_neg this]; rfl

theorem flatMap_filter_eq {α β : Type} (p : α → Bool) (f : α → List β) (l : List α) :
    (l.filter p).flatMap f = l.flatMap fun a => if p a then f a else [] := by
  induction l with
  | nil => rfl
  | cons a l ih => cases h : p a <;> simp [h, ih]

theorem things_staleProducts (s : State) (c : Fin 32) : (s.staleProducts c).things
    = .channelStale c :: ((List.finRange 8).filter fun k =>
        decide ((s.banks.active.trains.get k).channel = c ∧ (s.trains.get k).state ≠ .idle)).map .trainEnd := by
  have ends (l : List (Fin 8)) : Products.things (l.map fun k => (.trainEnd k, 1)) = l.map .trainEnd := by
    induction l with
    | nil => rfl
    | cons k l ih => exact congrArg (Thing.trainEnd k :: ·) ih
  have those : (fun k => (s.banks.active.trains.get k).channel == c && (s.trains.get k).live)
      = fun k => decide ((s.banks.active.trains.get k).channel = c ∧ (s.trains.get k).state ≠ .idle) := by
    funext k
    simp [TrainRt.live, Bool.decide_and]
    rfl
  unfold State.staleProducts
  rw [those]
  exact congrArg (Thing.channelStale c :: ·) (ends _)

/-- The things of a FRAME event are its watch edges and its trains' divisions and ends. -/
theorem things_frame (st : Stamp) (u : State)
    (hw : u.watches = ((s.begun (.frame id station st) rest).sampleFrame id station).1.watches)
    (ht : u.trains = ((s.begun (.frame id station st) rest).sampleFrame id station).1.trains) :
    ((s.begun (.frame id station st) rest).sampleFrame id station).2.things = s.produces u (.frame id station st) := by
  generalize hv : s.begun (.frame id station st) rest = v at hw ht
  have same : s.produces u (.frame id station st) = v.produces u (.frame id station st) := by rw [← hv]; rfl
  rw [same, State.produces]
  cases found : v.forward.find id with
  | none => simp [State.sampleFrame, found, Products.things]
  | some b =>
    cases fresh : v.isDuplicate station b.ordinal with
    | true => simp [sampleFrame_duplicate found fresh, Products.things, fresh]
    | false =>
      have eq := sampleFrame_eq found fresh
      rw [eq] at hw ht
      have trains (k : Fin 8) : u.trains.get k = (v.trainAt b station k).rt := by
        rw [ht]; simp [State.evaluateTrains, trainEval_watched]
      have before : (v.watched b station).trains = v.trains := rfl
      have watches : u.watches = (v.watched b station).watches := hw
      rw [eq, things_append, things_watchEdges, ← watches]
      simp only [fresh, Bool.false_eq_true, if_false]
      congr 1
      simp only [State.evaluateTrains, things_flatMap, List.flatMap_map, things_evalProducts, trainEval_watched, before, trains,
        divisionsAt_eq]

/-- The things of a CYCLE_CLOSE and of a CYCLE_LOST are the channels that went STALE and the ends of their trains. -/
theorem things_settle (v : State) (f : ChannelEntry → ChannelRt → ChannelRt) : (v.settleChannels f).2.things
    = (List.finRange 32).flatMap fun c =>
      if ((v.settleChannels f).1.channels.get c).isStale && !(v.channels.get c).isStale then
        .channelStale c :: ((List.finRange 8).filter fun k =>
          decide ((v.banks.active.trains.get k).channel = c ∧ (v.trains.get k).state ≠ .idle)).map .trainEnd
      else [] := by
  have form : (v.settleChannels f).2 = ((List.finRange 32).filter fun c =>
      ((v.settleChannels f).1.channels.get c).isStale && !(v.channels.get c).isStale).flatMap v.staleProducts := rfl
  rw [form, things_flatMap, flatMap_filter_eq]
  simp only [things_staleProducts]

/-- The things that the work of an event produces. -/
theorem things_eventWork (h : e.code ≠ 6) (u : State)
    (hc : u.channels = ((s.begun e rest).eventWork e).1.channels) (hw : u.watches = ((s.begun e rest).eventWork e).1.watches)
    (ht : u.trains = ((s.begun e rest).eventWork e).1.trains) :
    ((s.begun e rest).eventWork e).2.things = s.produces u e := by
  cases e with
  | frame id station st => exact things_frame st u hw ht
  | cycleClose st =>
    rw [eventWork_close] at hc ⊢
    rw [things_settle, ← hc]
    rfl
  | cycleLost st =>
    rw [eventWork_lost] at hc ⊢
    rw [things_settle, ← hc]
    rfl
  | fireRequest m st => exact absurd rfl h
  | _ => rfl

/-! The order and the number of entries. -/

theorem sorted_entriesOf (s : State) (l : List Thing) : (s.entriesOf l).Pairwise fun x y => x.trigger ≤ y.trigger := by
  unfold State.entriesOf
  rw [List.pairwise_flatMap]
  refine ⟨fun t _ => ?_, (List.pairwise_lt_finRange 48).imp fun {t t'} lt x hx y hy => ?_⟩
  · rw [List.pairwise_map]
    exact List.pairwise_of_forall fun _ _ => le_refl t
  · obtain ⟨_, -, rfl⟩ := List.mem_map.mp hx
    obtain ⟨_, -, rfl⟩ := List.mem_map.mp hy
    exact le_of_lt lt

theorem sorted_namedEntries (s : State) (m : BitVec 48) : (s.namedEntries m).Pairwise fun x y => x.trigger ≤ y.trigger := by
  unfold State.namedEntries
  rw [List.pairwise_map]
  exact ((List.pairwise_lt_finRange 48).filter _).imp fun lt => le_of_lt lt

theorem sorted_eventEntries (s : State) (e : Event) (l : Products) :
    (s.eventEntries e l).Pairwise fun x y => x.trigger ≤ y.trigger := by
  unfold State.eventEntries
  split
  · exact sorted_namedEntries s _
  · exact sorted_entriesOf s _

/-- One thing gives an entry to each valid trigger that matches it. -/
theorem entriesOf_one (s : State) (x : Thing) : s.entriesOf [x]
    = ((List.finRange 48).filter fun t => (s.banks.active.triggers.get t).accepts x).map fun t => ⟨t, x.kind, x.index⟩ := by
  unfold State.entriesOf
  induction List.finRange 48 with
  | nil => rfl
  | cons t l ih => cases h : (s.banks.active.triggers.get t).accepts x <;> simp [h, ih]

/-- At most one entry a trigger fits the list. -/
theorem take_filter_finRange {α : Type} (p : Fin 48 → Bool) (f : Fin 48 → α) :
    (((List.finRange 48).filter p).map f).take 64 = ((List.finRange 48).filter p).map f := by
  refine List.take_of_length_le ?_
  have few := List.length_filter_le p (List.finRange 48)
  rw [List.length_map]
  rw [List.length_finRange] at few
  omega

/-- The work of an event counts no merged firing. -/
theorem merged_eventWork (s : State) (e : Event) : (s.eventWork e).1.counter .mergedFiring = s.counter .mergedFiring := by
  cases e with
  | frame id station st =>
    show (s.sampleFrame id station).1.counter .mergedFiring = _
    unfold State.sampleFrame
    split
    · rfl
    · split
      · exact counter_bump_ne s (by decide)
      · exact counter_bumpBy_ne (State.withTrains _ _) _ (by decide)
  | _ => rfl

/-- What the taking of an event in RUNNING adds to an empty list, seen from the state before. -/
theorem taken_pends (running : s.engine = .running) (e : Event) (rest : List Event) : s.Pends (s.taken e rest) (s.newBurst e)
    (s.eventEntries e ((s.begun e rest).eventWork e).2) := by
  have pends := (taken_enters s e rest).pends running
  have work := eventWork_form (s.begun e rest) e
  have merged : ((s.begun e rest).eventWork e).1.counter .mergedFiring = s.counter .mergedFiring := merged_eventWork _ e
  generalize ((s.begun e rest).eventWork e).2 = l at pends ⊢
  generalize ((s.begun e rest).eventWork e).1 = v at pends work merged
  have triggers : v.triggers = s.triggers := (congrArg State.triggers work).trans rfl
  have entries : v.eventEntries e l = s.eventEntries e l := by
    have banks : v.banks = s.banks := (congrArg State.banks work).trans rfl
    unfold State.eventEntries State.namedEntries State.entriesOf
    rw [banks]
  obtain ⟨burst, counts, counter⟩ := pends
  rw [entries] at burst counts counter
  rw [merged] at counter
  rw [triggers] at counts
  exact ⟨burst, counts, counter⟩

/-- The list that a taken event begins with. -/
theorem taken_pending (h : (s.taken e rest).burst = some c) : (s.engine = .running →
      c = { s.newBurst e with pending := (s.eventEntries e ((s.begun e rest).eventWork e).2).take 64 })
    ∧ (s.engine ≠ .running → c = s.newBurst e) := by
  refine ⟨fun running => ?_, fun idle => ?_⟩
  · have burst := (taken_pends running e rest).burst
    rw [h] at burst
    exact Option.some.inj burst
  · rw [(taken_enters s e rest).idle idle, eventWork_burst] at h
    exact (Option.some.inj h).symm

/-- Settles O21: the entries by the things of the event, the order by the triggers, and the derived events by the same rule. -/
theorem initialListHoldsTheMatches : Obligations.InitialListHoldsTheMatches := by
  refine ⟨fun s u e rest c idle head h hc => ?_, fun s c x hc => ?derived⟩
  · obtain rfl : s.taken e rest = u := by
      rw [take_stepwise idle head] at h
      exact Host.Outcome.next.inj h
    obtain ⟨acts, still⟩ := taken_pending hc
    refine ⟨?sorted, fun x running hx => ?one, fun m st running he => ?named, fun running code => ?things⟩
    case sorted =>
      by_cases running : s.engine = .running
      · rw [acts running]
        exact (sorted_eventEntries s e _).take
      · rw [still running]
        exact .nil
    case one =>
      have entries : s.eventEntries e ((s.begun e rest).eventWork e).2 = s.entriesOf [x] := by
        cases e with
        | inputEdge | timerExpiry | cycleStart =>
          obtain rfl := Option.some.inj hx
          rfl
        | _ => cases hx
      rw [acts running, entries, entriesOf_one]
      exact take_filter_finRange _ _
    case named =>
      subst he
      rw [acts running]
      exact take_filter_finRange _ _
    case things =>
      have adds := (taken_enters s e rest).adds
      have things := things_eventWork code (s.taken e rest) adds.channels adds.watches adds.trains
      have entries : s.eventEntries e ((s.begun e rest).eventWork e).2 = s.entriesOf (s.produces (s.taken e rest) e) := by
        rw [← things]
        cases e with
        | fireRequest m st => exact absurd rfl code
        | _ => rfl
      have empty : ({ c with pending := [] } : Burst) = s.newBurst e := by rw [acts running]; rfl
      rw [empty, ← entries]
      exact taken_pends running e rest
  case derived =>
    have adds := addProducts_onlyAdds [(x, 1)] s
    exact ⟨derive_pends hc x, adds.form, adds.counters⟩

end Sys2Proof.Machine
end

section
/-! SUPPORT. The statement about the evaluation of a train (R79 to R82, R85, R86). -/

namespace Sys2Proof.Machine

variable {e : TrainEntry} {value : Ext} {t : TrainRt} {r : TrainRun}

theorem travel_eq (e : TrainEntry) (origin value : Ext) : travel e origin value
    = (let d := (value - origin).toInt
      if e.reverse then (if d = -140737488355328 then 140737488355327 else -d) else d) := by
  have low := BitVec.le_toInt (value - origin)
  have high := BitVec.toInt_lt (x := value - origin)
  unfold travel
  dsimp only [Config.maxTravel]
  generalize (value - origin).toInt = d at low high ⊢
  norm_num at low high
  cases e.reverse with
  | false => rfl
  | true =>
    simp only [if_true]
    split <;> omega

theorem inSpan_iff (e : TrainEntry) (last : Option Nat) (v : Int) : inSpan e last v = true ↔
    ∃ j : Nat, last = some j ∧ ((j * e.interval : Nat) : Int) ≤ v ∧ v ≤ ((j * e.interval : Nat) : Int) + e.width - 1 := by
  cases last <;> simp [inSpan]

/-- The first boundary that an evaluation can emit (R80). -/
def firstBoundary : Option Nat → Nat
  | some j => j + 1
  | none => 1

/-- The boundaries emitted have been reached, are as many as the count lets, and are all of them (R80, R82). -/
theorem divisionsDue_spec (hi : 1 ≤ e.interval) (last : Option Nat) (high emitted : Nat) :
    let n := divisionsDue e last high emitted
    (∀ k, k < n → (firstBoundary last + k) * e.interval ≤ high) ∧ (e.count ≠ 0 → n ≤ e.count - emitted)
      ∧ (high < (firstBoundary last + n) * e.interval ∨ e.count ≠ 0 ∧ e.count ≤ emitted + n) := by
  intro n
  obtain ⟨reached, hr⟩ : ∃ reached, reached = high / e.interval + 1 - firstBoundary last := ⟨_, rfl⟩
  have hn : n = if e.count = 0 then reached else min reached (e.count - emitted) := by
    rw [hr]; cases last <;> rfl
  have few : n ≤ reached := by rw [hn]; split <;> omega
  have beyond : high < (firstBoundary last + reached) * e.interval := by
    have next := Nat.lt_mul_div_succ high (show 0 < e.interval from hi)
    rw [Nat.mul_comm] at next
    exact lt_of_lt_of_le next (Nat.mul_le_mul_right _ (by omega))
  refine ⟨fun k hk => ?_, fun limited => by rw [hn, if_neg limited]; omega, ?_⟩
  · have boundary : firstBoundary last + k ≤ high / e.interval := by omega
    exact (Nat.mul_le_mul_right _ boundary).trans (Nat.div_mul_le_self _ _)
  · by_cases all : n = reached
    · exact .inl (by rw [all]; exact beyond)
    · refine .inr ?_
      by_cases limited : e.count = 0
      · rw [if_pos limited] at hn; exact absurd hn all
      · rw [if_neg limited] at hn
        exact ⟨limited, by omega⟩

/-- The evaluation of an ENDING train (R82, R85). -/
theorem evaluate_ending (hr : t.run = some r) (h : t.state = .ending) : t.evaluate e value
    = ⟨{ t with on := inSpan e r.last (travel e r.origin value),
                state := if inSpan e r.last (travel e r.origin value) then .ending else .idle }, 0⟩ := by
  simp [TrainRt.evaluate, h, hr]

/-- The last boundary after `n` more have been emitted. -/
def lastBoundary (last : Option Nat) (n : Nat) : Option Nat := if n = 0 then last else some (firstBoundary last + n - 1)

/-- The evaluation of a RUNNING train (R79 to R82). -/
theorem evaluate_running (hr : t.run = some r) (h : t.state = .running) :
    let v := travel e r.origin value
    let high := max r.highWater v.toNat
    let x := t.evaluate e value
    x.divisions = divisionsDue e r.last high t.emitted ∧ x.rt.run = some ⟨r.origin, high, lastBoundary r.last x.divisions⟩
      ∧ x.rt.emitted = satAdd 4294967295 t.emitted x.divisions
      ∧ x.rt.crowded = (if 1 < x.divisions then satInc 65535 t.crowded else t.crowded)
      ∧ x.rt.on = inSpan e (lastBoundary r.last x.divisions) v
      ∧ x.rt.state = if e.count ≠ 0 ∧ e.count ≤ x.rt.emitted then (if x.rt.on then .ending else .idle) else .running := by
  have form : t.evaluate e value = (let v := travel e r.origin value
      let high := max r.highWater v.toNat
      let n := divisionsDue e r.last high t.emitted
      let last := lastBoundary r.last n
      let emitted := satAdd max32 t.emitted n
      let on := inSpan e last v
      ⟨{ state := if e.count ≠ 0 ∧ e.count ≤ emitted then (if on then .ending else .idle) else .running
         run := some ⟨r.origin, high, last⟩, emitted := emitted, on := on
         crowded := if 1 < n then satInc max16 t.crowded else t.crowded }, n⟩) := by
    rw [TrainRt.evaluate, h, hr]
    obtain ⟨origin, highWater, last⟩ := r
    cases last <;> rfl
  intro v high x
  have hx : x = t.evaluate e value := rfl
  rw [form] at hx
  rw [hx]
  exact ⟨rfl, rfl, rfl, rfl, rfl, rfl⟩

/-- Settles O28: one train by its state, and each train by the sample that the frame brings its channel. -/
theorem trainEvaluationFollowsTravel : Obligations.TrainEvaluationFollowsTravel := by
  refine ⟨fun e value t hi => ⟨fun idle => evaluate_of_idle (by simp [TrainRt.live, idle]) e value, fun r hr =>
      ⟨fun ending => ?ending, fun running => ?running⟩⟩,
    fun s id st station b rest idle head found fresh => ⟨_, take_stepwise idle head, fun k =>
      ⟨fun raw valid follows carried => ?_, fun no => ?_⟩, (taken_sampled found fresh).crowded⟩⟩
  case ending =>
    rw [← travel_eq, evaluate_ending hr ending]
    exact ⟨rfl, inSpan_iff e r.last _, rfl⟩
  case running =>
    have travelled := travel_eq e r.origin value
    dsimp only at travelled
    obtain ⟨divisions, run, emitted, crowded, on, state⟩ := evaluate_running (e := e) (value := value) hr running
    obtain ⟨reached, few, all⟩ := divisionsDue_spec hi r.last (max r.highWater (travel e r.origin value).toNat) t.emitted
    rw [← divisions] at reached few all
    rw [travelled] at run reached all on
    exact ⟨reached, few, all, run, emitted, crowded, by rw [on]; exact inSpan_iff e _ _, state⟩
  · rw [(taken_sampled found fresh).trains, State.trainAt, sampleAt_some follows carried]
    exact congrArg TrainEval.rt (if_pos valid)
  · rw [(taken_sampled found fresh).trains, State.trainAt]
    obtain invalid | none_ := no
    · cases s.sampleAt b station (s.banks.active.trains.get k).channel with
      | none => rfl
      | some m => exact congrArg TrainEval.rt (if_neg (ne_true_of_eq_false invalid))
    · rw [sampleAt_none none_]

end Sys2Proof.Machine
end

section
/-! SUPPORT. The slots of a frame, and the edits that the patch entries make (R62, R112, R115). -/

namespace Sys2Proof.Machine

variable {f g : Frame} {j k : Nat} {w : BitVec 32}

/-! Bytes. -/

theorem length_beBytes (n v : Nat) : (beBytes n v).length = n := by
  induction n with
  | zero => rfl
  | succ n ih => simp [beBytes, ih]

/-- Four bytes give back a word. -/
theorem beNat_beBytes_word (w : BitVec 32) : beNat (beBytes 4 w.toNat) = w.toNat := by
  have small := w.isLt
  simp only [beBytes, beNat, List.foldl_cons, List.foldl_nil, BitVec.toNat_ofNat]
  omega

/-- The place of a slot lies before the check. -/
theorem slot_place (h : k < slotCount f) : 7 + 4 * k + 4 ≤ f.length - 4 := by unfold slotCount at h; omega

theorem slotCount_congr (h : g.length = f.length) : slotCount g = slotCount f := by unfold slotCount; rw [h]

theorem slotAt_none (h : ¬ k < slotCount f) : slotAt f k = none := if_neg h

/-- A slot is where its four bytes are. -/
theorem slotAt_congr (hl : g.length = f.length)
    (h : k < slotCount f → (g.drop (7 + 4 * k)).take 4 = (f.drop (7 + 4 * k)).take 4) : slotAt g k = slotAt f k := by
  unfold slotAt
  rw [slotCount_congr hl]
  split
  · rename_i carried; rw [h carried]
  · rfl

theorem length_setSlot (h : j < slotCount f) (w : BitVec 32) : (setSlot f j w).length = f.length := by
  have place := slot_place h
  simp only [setSlot, List.length_append, List.length_take, List.length_drop, length_beBytes]
  omega

theorem take_setSlot (h : j < slotCount f) (w : BitVec 32) : (setSlot f j w).take 7 = f.take 7 := by
  have place := slot_place h
  have head : (f.take (7 + 4 * j)).length = 7 + 4 * j := by rw [List.length_take]; omega
  rw [setSlot, List.append_assoc, List.take_append_of_le_length (by omega), List.take_take, min_eq_left (by omega)]

/-- A slot that is set is read back, and every other slot is as it was (R112). -/
theorem slotAt_setSlot (h : j < slotCount f) (w : BitVec 32) (k : Nat) :
    slotAt (setSlot f j w) k = if k = j then some w else slotAt f k := by
  have place := slot_place h
  have length := length_setSlot h w
  have head : (f.take (7 + 4 * j)).length = 7 + 4 * j := by rw [List.length_take]; omega
  by_cases own : k = j
  · subst own
    have bytes : ((setSlot f k w).drop (7 + 4 * k)).take 4 = beBytes 4 w.toNat := by
      rw [setSlot, List.append_assoc, List.drop_left' head, List.take_left' (length_beBytes 4 _)]
    rw [if_pos rfl, slotAt, if_pos (by rw [slotCount_congr length]; exact h), bytes, beNat_beBytes_word, BitVec.ofNat_toNat,
      BitVec.setWidth_eq]
  · rw [if_neg own]
    refine slotAt_congr length fun carried => ?_
    apply List.ext_getElem?
    intro n
    have words := length_beBytes 4 w.toNat
    simp only [setSlot, List.getElem?_take, List.getElem?_drop, List.append_assoc, List.getElem?_append, head, words]
    split <;> [skip; rfl]
    rename_i within
    split
    · rfl
    · rename_i after
      rw [if_neg (by omega)]
      congr 1
      omega

/-! The check formed anew (R115). -/

theorem length_recheck (h : 4 ≤ f.length) : (recheck f).length = f.length := by
  simp only [recheck, withCheck, List.length_append, List.length_take, length_beBytes]
  omega

theorem take_recheck (h : 11 ≤ f.length) : (recheck f).take 7 = f.take 7 := by
  rw [recheck, withCheck, List.take_append_of_le_length (by rw [List.length_take]; omega), List.take_take,
    min_eq_left (by omega)]

theorem slotAt_recheck (h : 4 ≤ f.length) (k : Nat) : slotAt (recheck f) k = slotAt f k := by
  refine slotAt_congr (length_recheck h) fun carried => ?_
  have place := slot_place carried
  have head : (f.take (f.length - 4)).length = f.length - 4 := by rw [List.length_take]; omega
  apply List.ext_getElem?
  intro n
  simp only [recheck, withCheck, List.getElem?_take, List.getElem?_drop, List.getElem?_append, head]
  split <;> [skip; rfl]
  rw [if_pos (by omega), if_pos (by omega)]

/-- A frame that passes its check test has a header and a check, and its source where the header has it (R179). -/
theorem goodFrame_source {v : FrameView} (h : goodFrame f = some v) (d : Byte) : 11 ≤ f.length ∧ f.getD 1 d = v.source := by
  obtain ⟨u, parsed, rfl⟩ : ∃ u, parseFrame f = some u ∧ u = v := by
    unfold goodFrame at h
    split at h
    · rename_i u parsed
      split at h
      · exact ⟨u, parsed, Option.some.inj h⟩
      · cases h
    · cases h
  unfold parseFrame at parsed
  split at parsed
  · split at parsed
    · cases parsed
    · rename_i long
      obtain rfl := Option.some.inj parsed
      exact ⟨by simp only [List.length_cons]; omega, rfl⟩
  · cases parsed

end Sys2Proof.Machine
end

section
/-! SUPPORT. The statement about the end of a burst (R8, R112 to R115, R145, R148, R149). -/

namespace Sys2Proof.Machine

variable {s t : State} {b : Burst} {station : Byte} {f : Frame} {l : List (Fin 16)} {x : State × Frame × Bool} {i : Fin 16}

/-- Patch entry `i` edits the frame `f` (R112). -/
def State.hits (s : State) (station : Byte) (f : Frame) (i : Fin 16) : Bool :=
  s.aims station i && decide ((s.banks.active.patches.get i).slot.val < slotCount f)

/-- Patch entry `i` is aimed at the frame `f`, which lacks its slot (R114). -/
def State.misses (s : State) (station : Byte) (f : Frame) (i : Fin 16) : Bool :=
  s.aims station i && !decide ((s.banks.active.patches.get i).slot.val < slotCount f)

/-- What entry `i` makes of the contents of slot `k` (R112). -/
def State.editBy (s : State) (station : Byte) (k : Nat) (w : BitVec 32) (i : Fin 16) : BitVec 32 :=
  let e := s.banks.active.patches.get i
  if s.aims station i ∧ e.slot.val = k then (w &&& ~~~e.mask) ||| ((s.patches.get i).value &&& e.mask) else w

/-- The entries of `l` have been worked through for the frame `f` (R112 to R114). -/
structure State.Patched (s : State) (station : Byte) (f : Frame) (l : List (Fin 16)) (x : State × Frame × Bool) : Prop where
  form : ∃ p c, x.1 = (s.withPatches p).withCounters c
  patches : ∀ i, x.1.patches.get i = if i ∈ l ∧ s.hits station f i = true then
    (s.patches.get i).edited (s.banks.active.patches.get i).hold else s.patches.get i
  missed : x.1.counter .patchMiss = if l.countP (s.misses station f) = 0 then s.counter .patchMiss
    else satAdd 4294967295 (s.counter .patchMiss) (l.countP (s.misses station f))
  counters : ∀ c, c ≠ .patchMiss → x.1.counter c = s.counter c
  length : x.2.1.length = f.length
  head : x.2.1.take 7 = f.take 7
  slots : ∀ k, slotAt x.2.1 k = (slotAt f k).map fun w => l.foldl (s.editBy station k) w
  edited : x.2.2 = l.any (s.hits station f)
  same : (∀ i ∈ l, s.hits station f i = false) → x.2.1 = f

theorem State.Patched.nil (s : State) (station : Byte) (f : Frame) : s.Patched station f [] (s, f, false) :=
  ⟨⟨s.patches, s.counters, rfl⟩, by simp, by simp, fun _ _ => rfl, rfl, rfl, by simp, rfl, fun _ => rfl⟩

theorem patchOne_away (h : x.1.aims station i = false) : patchOne station x i = x := if_neg (ne_true_of_eq_false h)

theorem patchOne_hit {w : BitVec 32} (h : x.1.aims station i = true)
    (hs : slotAt x.2.1 (x.1.banks.active.patches.get i).slot = some w) : patchOne station x i
      = (x.1.withPatches (x.1.patches.set i ((x.1.patches.get i).edited (x.1.banks.active.patches.get i).hold)),
        setSlot x.2.1 (x.1.banks.active.patches.get i).slot
          (underMask (x.1.banks.active.patches.get i).mask w (x.1.patches.get i).value), true) := by
  have aimed : ((x.1.banks.active.patches.get i).valid && (x.1.patches.get i).armed
      && (x.1.banks.active.patches.get i).station == station) = true := h
  simp only [patchOne, aimed, if_true, hs]

theorem patchOne_miss (h : x.1.aims station i = true)
    (hs : slotAt x.2.1 (x.1.banks.active.patches.get i).slot = none) :
    patchOne station x i = (x.1.bump .patchMiss, x.2.1, x.2.2) := by
  have aimed : ((x.1.banks.active.patches.get i).valid && (x.1.patches.get i).armed
      && (x.1.banks.active.patches.get i).station == station) = true := h
  simp only [patchOne, aimed, if_true, hs]

namespace State.Patched

/-- An entry that does not edit the frame leaves patches and slots. -/
theorem idle (h : s.Patched station f l x) (hit : s.hits station f i = false) {u : State}
    (form : ∃ p c, u = (s.withPatches p).withCounters c) (patches : u.patches = x.1.patches)
    (missed : u.counter .patchMiss = if (l ++ [i]).countP (s.misses station f) = 0 then s.counter .patchMiss
      else satAdd 4294967295 (s.counter .patchMiss) ((l ++ [i]).countP (s.misses station f)))
    (counters : ∀ c, c ≠ .patchMiss → u.counter c = s.counter c) : s.Patched station f (l ++ [i]) (u, x.2.1, x.2.2) where
  form := form
  patches j := by
    rw [patches, h.patches]
    by_cases own : j = i
    · subst own; simp [hit]
    · simp [own]
  missed := missed
  counters := counters
  length := h.length
  head := h.head
  slots k := by
    rw [h.slots]
    cases carried : slotAt f k with
    | none => rfl
    | some w =>
      have away : ¬ (s.aims station i = true ∧ (s.banks.active.patches.get i).slot.val = k) := by
        rintro ⟨aimed, rfl⟩
        have within : (s.banks.active.patches.get i).slot.val < slotCount f := by
          by_contra out
          rw [slotAt_none out] at carried; cases carried
        simp [State.hits, aimed, within] at hit
      simp [List.foldl_append, State.editBy, away]
  edited := by rw [h.edited]; simp [hit]
  same all := h.same fun j hj => all j (by simp [hj])

/-- An entry that is not aimed at the frame. -/
theorem away (h : s.Patched station f l x) (off : s.aims station i = false) : s.Patched station f (l ++ [i]) x := by
  refine h.idle (by simp [State.hits, off]) h.form rfl ?_ h.counters
  have none_ : s.misses station f i = false := by simp [State.misses, off]
  rw [h.missed, List.countP_append]
  simp [none_]

/-- An entry whose slot the frame lacks (R114). -/
theorem miss (h : s.Patched station f l x) (aimed : s.aims station i = true)
    (out : ¬ (s.banks.active.patches.get i).slot.val < slotCount f) :
    s.Patched station f (l ++ [i]) (x.1.bump .patchMiss, x.2.1, x.2.2) := by
  obtain ⟨p, c, form⟩ := h.form
  refine h.idle (by simp [State.hits, out]) ⟨p, (x.1.bump .patchMiss).counters, by rw [form]; rfl⟩ rfl ?_ fun c hc => ?_
  · have one : s.misses station f i = true := by simp [State.misses, aimed, out]
    have bumped : (x.1.bump .patchMiss).counter .patchMiss = satAdd 4294967295 (x.1.counter .patchMiss) 1 :=
      counter_bumpBy_self x.1 .patchMiss 1
    have total : (l ++ [i]).countP (s.misses station f) = l.countP (s.misses station f) + 1 := by
      rw [List.countP_append]; simp [one]
    rw [bumped, h.missed, total, if_neg (Nat.succ_ne_zero _)]
    split
    · rename_i none_; rw [none_]
    · rw [satAdd_satAdd]
  · rw [counter_bump_ne _ hc.symm, h.counters c hc]

/-- An entry that edits its slot (R112, R113). -/
theorem hit (h : s.Patched station f l x) (new : i ∉ l) (aimed : s.aims station i = true) {w : BitVec 32}
    (within : (s.banks.active.patches.get i).slot.val < slotCount f)
    (hw : slotAt x.2.1 (s.banks.active.patches.get i).slot = some w) : s.Patched station f (l ++ [i])
      (x.1.withPatches (x.1.patches.set i ((s.patches.get i).edited (s.banks.active.patches.get i).hold)),
        setSlot x.2.1 (s.banks.active.patches.get i).slot
          (underMask (s.banks.active.patches.get i).mask w (s.patches.get i).value), true) := by
  obtain ⟨p, c, form⟩ := h.form
  have own : s.hits station f i = true := by simp [State.hits, aimed, within]
  have inside : (s.banks.active.patches.get i).slot.val < slotCount x.2.1 := by rw [slotCount_congr h.length]; exact within
  refine ⟨⟨_, c, by rw [form]; rfl⟩, fun j => ?patches, ?missed, h.counters, ?length, ?head, fun k => ?slots, ?edited,
    fun all => ?same⟩
  case patches =>
    rw [State.patches_withPatches, Tab.get_set, h.patches]
    by_cases same : j = i
    · subst same; simp [own]
    · simp [same, Ne.symm same, Fin.val_inj]
  case missed =>
    have none_ : s.misses station f i = false := by simp [State.misses, within]
    have kept : (x.1.withPatches (x.1.patches.set i ((s.patches.get i).edited (s.banks.active.patches.get i).hold))).counter
        .patchMiss = x.1.counter .patchMiss := rfl
    rw [kept, h.missed, List.countP_append]
    simp [none_]
  case length => exact (length_setSlot inside _).trans h.length
  case head => exact (take_setSlot inside _).trans h.head
  case slots =>
    have slots := h.slots k
    rw [slotAt_setSlot inside]
    by_cases at_ : k = (s.banks.active.patches.get i).slot.val
    · subst at_
      rw [hw] at slots
      rw [if_pos rfl]
      cases carried : slotAt f (s.banks.active.patches.get i).slot.val with
      | none => rw [carried] at slots; cases slots
      | some w0 =>
        rw [carried] at slots
        obtain rfl := Option.some.inj slots
        simp [List.foldl_append, State.editBy, aimed, underMask]
    · rw [if_neg at_, slots]
      congr 1
      funext w
      simp [List.foldl_append, State.editBy, Ne.symm at_]
  case edited => simp [own]
  case same =>
    have off := all i (by simp)
    rw [own] at off; cases off

/-- One entry more. -/
theorem step (h : s.Patched station f l x) (new : i ∉ l) : s.Patched station f (l ++ [i]) (patchOne station x i) := by
  obtain ⟨p, c, form⟩ := h.form
  have banks : x.1.banks = s.banks := by rw [form]; rfl
  have entry : x.1.patches.get i = s.patches.get i := by rw [h.patches, if_neg (fun g => new g.1)]
  have aims : x.1.aims station i = s.aims station i := by unfold State.aims; rw [banks, entry]
  cases aimed : s.aims station i with
  | false =>
    rw [patchOne_away (aims.trans aimed)]
    exact h.away aimed
  | true =>
    by_cases within : (s.banks.active.patches.get i).slot.val < slotCount f
    · obtain ⟨w, hw⟩ : ∃ w, slotAt x.2.1 (s.banks.active.patches.get i).slot = some w := by
        unfold slotAt
        rw [slotCount_congr h.length, if_pos within]
        exact ⟨_, rfl⟩
      rw [patchOne_hit (aims.trans aimed) (by rw [banks]; exact hw), banks, entry]
      exact h.hit new aimed within hw
    · have none_ : slotAt x.2.1 (s.banks.active.patches.get i).slot = none :=
        slotAt_none (by rw [slotCount_congr h.length]; exact within)
      rw [patchOne_miss (aims.trans aimed) (by rw [banks]; exact none_)]
      exact h.miss aimed within

end State.Patched

/-- All the entries worked through. -/
theorem patchFrame_patched (s : State) (station : Byte) (f : Frame) :
    s.Patched station f (List.finRange 16) (patchFrame s station f) := by
  suffices H : ∀ l : List (Fin 16), l.Nodup → s.Patched station f l (l.foldl (patchOne station) (s, f, false)) from
    H _ (List.nodup_finRange 16)
  intro l
  induction l using List.reverseRecOn with
  | nil => exact fun _ => State.Patched.nil s station f
  | append_singleton l i ih =>
    intro nodup
    obtain ⟨hl, -, apart⟩ := List.nodup_append.mp nodup
    rw [List.foldl_append]
    exact (ih hl).step fun hi => apart i hi i (by simp) rfl

/-- The frame that an end of burst leaves in its place (R115). -/
def patchedFrame (x : State × Frame × Bool) : Frame := if x.2.2 then recheck x.2.1 else x.2.1

theorem length_patchedFrame (h : 4 ≤ x.2.1.length) : (patchedFrame x).length = x.2.1.length := by
  unfold patchedFrame
  split
  · exact length_recheck h
  · rfl

theorem take_patchedFrame (h : 11 ≤ x.2.1.length) : (patchedFrame x).take 7 = x.2.1.take 7 := by
  unfold patchedFrame
  split
  · exact take_recheck h
  · rfl

theorem slotAt_patchedFrame (h : 4 ≤ x.2.1.length) (k : Nat) : slotAt (patchedFrame x) k = slotAt x.2.1 k := by
  unfold patchedFrame
  split
  · exact slotAt_recheck h k
  · rfl

theorem patchAndRelease_of_find {id : Nat} {y : BufFrame} (found : s.forward.find id = some y) : s.patchAndRelease id
    = (patchFrame s (s.sourceByte y.bytes) y.bytes).1.withForward
      ((patchFrame s (s.sourceByte y.bytes) y.bytes).1.forward.finish id
        (patchedFrame (patchFrame s (s.sourceByte y.bytes) y.bytes))) := by
  simp [State.patchAndRelease, found, patchedFrame]

/-- The end of a burst that carries no swap, while no request waits. -/
theorem burstWork_end_plain (hb : s.burst = some b) (hf : b.firing = none) (hp : b.pending = [])
    (hs : b.carriesSwap = false ∨ s.banks.commitPending = false) (hold : s.agent.hold = none) :
    s.burstWork = (s.frameWork b).withBurst none := by
  obtain ⟨p, c, w, form⟩ := frameWork_eq s b
  have banks : (s.frameWork b).banks = s.banks := by rw [form]; rfl
  have agent : (s.frameWork b).agent = s.agent := by rw [form]; rfl
  rw [burstWork_end hb hf hp, endBurst_eq]
  have no : (b.carriesSwap && ((s.frameWork b).withBurst none).banks.commitPending) = false := by
    rw [State.banks_withBurst, banks]
    obtain h | h := hs <;> simp [h]
  dsimp only
  rw [no]
  exact finishHeld_of_none (s := (s.frameWork b).withBurst none) (by rw [State.agent_withBurst, agent]; exact hold)

/-- Settles O24: the patches entry by entry, the swap that a close carries, and the swap itself. -/
theorem burstEndPatchesReleasesAndSwaps : Obligations.BurstEndPatchesReleasesAndSwaps := by
  refine ⟨fun s b id x v hb hf hp hs hold hframe found good => ?patched, fun s st rest idle head => ?carried,
    fun s b hb hf hp hframe hold => ⟨fun no => ?plain, fun carries pending => ?swapped⟩⟩
  case patched =>
    obtain ⟨long, source⟩ := goodFrame_source good (Config.absentByte s.freeIdx)
    have station : s.sourceByte x.bytes = v.source := source
    obtain ⟨r, hr⟩ : ∃ r, r = patchFrame s v.source x.bytes := ⟨_, rfl⟩
    have patched := patchFrame_patched s v.source x.bytes
    have work : s.frameWork b = r.1.withForward (r.1.forward.finish id (patchedFrame r)) := by
      rw [State.frameWork, hframe]
      rw [hr, ← station]
      exact patchAndRelease_of_find found
    rw [← hr] at patched
    obtain ⟨p, c, form⟩ := patched.form
    have size : 11 ≤ r.2.1.length := by rw [patched.length]; exact long
    dsimp only
    rw [burstWork_end_plain hb hf hp (.inl hs) hold, work]
    refine ⟨_, patchedFrame r, rfl, by rw [form]; rfl, fun i => ?patches, ?missed, patched.counters, ?length, ?head,
      fun k => ?slots, fun none_ => ?same, fun ⟨i, hi⟩ => ?checked⟩
    case patches =>
      have entry := patched.patches i
      simp only [List.mem_finRange, true_and] at entry
      exact entry
    case missed => exact patched.missed
    case length => rw [length_patchedFrame (by omega), patched.length]
    case head => rw [take_patchedFrame size, patched.head]
    case slots => rw [slotAt_patchedFrame (by omega), patched.slots]; rfl
    case same =>
      have unedited : r.2.2 = false := by
        rw [patched.edited, List.any_eq_false]
        exact fun i _ => ne_true_of_eq_false (none_ i)
      rw [patchedFrame, unedited]
      exact patched.same fun i _ => none_ i
    case checked =>
      have edited : r.2.2 = true := by
        rw [patched.edited, List.any_eq_true]
        exact ⟨i, List.mem_finRange i, hi⟩
      rw [patchedFrame, edited]
      exact ⟨_, rfl⟩
  case carried =>
    obtain ⟨l, hl, -⟩ := taken_burst s (.cycleClose st) rest
    exact ⟨_, _, take_stepwise idle head, hl, rfl, rfl⟩
  case plain =>
    have frame : s.frameWork b = s := by rw [State.frameWork, hframe]
    rw [burstWork_end_plain hb hf hp no hold, frame]
  case swapped =>
    have frame : s.frameWork b = s := by rw [State.frameWork, hframe]
    have due : (b.carriesSwap && (s.withBurst none).banks.commitPending) = true := by rw [carries]; exact pending
    have swapped : s.burstWork = (s.withBurst none).swap := by
      rw [burstWork_end hb hf hp, endBurst_eq, frame]
      dsimp only
      rw [due, if_pos rfl]
      exact finishHeld_of_none (by rw [State.swap_agent]; exact hold)
    refine ⟨_, swapped, ?_, by rw [banks_swap]; rfl, by simp, by simp, by simp, by simp, fun room => ?_⟩
    · exact Option.isNone_iff_eq_none.mp (burst_isNone_swap _)
    · exact (swap_carries (s := s.withBurst none) room).of_withBurst

end Sys2Proof.Machine
end
